-- ==== Sys2Proof/Word.lean ====
section
/-! DEFINITION. The words of TDES_SEQ, and the names of its one-bit codes.

A bit sequence of n bits (R8) is a `BitVec n` whose index 0 is the MOST significant bit (R9): sequence index `i` is vector
bit `n - 1 - i`, which is `BitVec.getMsbD i`, and `s ‖ t` is `s ++ t`. An integer field (R10) is a `BitVec` with bit 0 the
least significant. One-bit fields that are a choice of names are an inductive type; one-bit flags are a `Bool`. -/

namespace Sys2Proof

/-- A `W` = 64-bit sequence: data block, sub-key, `DES_CORE` key, block and result (R6, R37). -/
abbrev Block := BitVec 64

/-- The `KMW` = 192-bit key-material bus and its latch (R6, R58). -/
abbrev KeyBus := BitVec 192

/-- A `LENW` = 8-bit length field (R6, R57). -/
abbrev LenField := BitVec 8

/-- The 19-bit request header `HDR` as one number, bit 0 least significant (R54). -/
abbrev HeaderWord := BitVec 19

/-- `OP`: the operation; code 0 = `ENCRYPT`, 1 = `DECRYPT` (R55). -/
inductive Op where
  | encrypt
  | decrypt
  deriving DecidableEq, Repr, Inhabited

/-- `DIR`: the direction of a `DES_CORE` call; code 0 = encrypt (`DES_E`), 1 = decrypt (`DES_D`) (R64). -/
inductive Dir where
  | encrypt
  | decrypt
  deriving DecidableEq, Repr, Inhabited

/-- `MODE`: which form the key material had; code 0 = two-key, 1 = three-key (R18). -/
inductive KeyMode where
  | twoKey
  | threeKey
  deriving DecidableEq, Repr, Inhabited

/-- The number of a sub-key register, 1 to 3 (R17). -/
inductive KeyIx where
  | k1
  | k2
  | k3
  deriving DecidableEq, Repr, Inhabited

/-- The five fields of a header (R54). -/
structure Header where
  op         : Op
  kmPresent  : Bool
  dinPresent : Bool
  kmLen      : LenField
  dinLen     : LenField
  deriving DecidableEq, Repr, Inhabited

end Sys2Proof
end

