-- ==== Sys2Proof/Syntax.lean ====
section
/-! DEFINITION. The operations of TDES_SEQ, one constructor per row of spec/opcode_table.json. The operands are the header's
fields; the key material and the data block are on the host's buses (R53). -/

namespace Sys2Proof

/-- One constructor per row of the opcode table. `encrypt` and `decrypt` are the two operations (R62, R97, R98). The other four
are the table's rows of kind "alias": one header each of those operations, with both present bits 1, `DIN_LEN` = 64 and
`KM_LEN` = 128 (`2K`) or 192 (`3K`). -/
inductive Instr where
  | encrypt (kmPresent dinPresent : Bool) (kmLen dinLen : LenField)
  | decrypt (kmPresent dinPresent : Bool) (kmLen dinLen : LenField)
  | encrypt2K
  | encrypt3K
  | decrypt2K
  | decrypt3K
  deriving DecidableEq, Repr

end Sys2Proof
end

