-- ==== Sys2Proof/WellFormed.lean ====
section
/-! DEFINITION. Which instructions stand for a header of their own. Every header has exactly one spelling: the header of one of
the table's four valid forms is spelled by that row's constructor, every other header by `encrypt` or `decrypt` (log 7). An
ill-formed term still has its meaning: the operation's. -/

namespace Sys2Proof

/-- The operand values are those of the table's two-key row (`ENCRYPT.2K`, `DECRYPT.2K`). -/
def isTwoKeyForm (kmPresent dinPresent : Bool) (kmLen dinLen : LenField) : Bool :=
  kmPresent && dinPresent && kmLen == 128#8 && dinLen == 64#8

/-- The operand values are those of the table's three-key row (`ENCRYPT.3K`, `DECRYPT.3K`). -/
def isThreeKeyForm (kmPresent dinPresent : Bool) (kmLen dinLen : LenField) : Bool :=
  kmPresent && dinPresent && kmLen == 192#8 && dinLen == 64#8

/-- The two checks of well-formedness: not the words of the two-key row, not the words of the three-key row. -/
def Instr.wellFormed : Instr → Bool
  | .encrypt kp dp kl dl => !isTwoKeyForm kp dp kl dl && !isThreeKeyForm kp dp kl dl
  | .decrypt kp dp kl dl => !isTwoKeyForm kp dp kl dl && !isThreeKeyForm kp dp kl dl
  | .encrypt2K => true
  | .encrypt3K => true
  | .decrypt2K => true
  | .decrypt3K => true

end Sys2Proof
end

