-- ==== Sys2Proof/Decode.lean ====
section
/-! DEFINITION. The header's fields, the decoder and the encoder (30_encoding.md R54, R55, R62; spec/opcode_table.json). -/

namespace Sys2Proof

/-- The code of `OP` (R55). -/
def Op.bit : Op → Bool
  | .encrypt => false
  | .decrypt => true

/-- The operation an `OP` bit selects (R55). -/
def Op.ofBit (b : Bool) : Op :=
  if b then .decrypt else .encrypt

/-- The code of `DIR` (R64). -/
def Dir.bit : Dir → Bool
  | .encrypt => false
  | .decrypt => true

/-- The code of `MODE` (R18). -/
def KeyMode.bit : KeyMode → Bool
  | .twoKey => false
  | .threeKey => true

/-- The number of a sub-key register, 1 to 3 (R17). -/
def KeyIx.index : KeyIx → Nat
  | .k1 => 1
  | .k2 => 2
  | .k3 => 3

/-- The fields of a header: `OP` = `HDR[18]`, `KM_PRESENT` = `HDR[17]`, `DIN_PRESENT` = `HDR[16]`, `KM_LEN` = `HDR[15:8]`,
`DIN_LEN` = `HDR[7:0]` (R54). -/
def Header.ofWord (h : HeaderWord) : Header where
  op := Op.ofBit (h.getLsbD 18)
  kmPresent := h.getLsbD 17
  dinPresent := h.getLsbD 16
  kmLen := h.extractLsb' 8 8
  dinLen := h.extractLsb' 0 8

/-- The header with given fields as one number: `OP*2^18 + KM_PRESENT*2^17 + DIN_PRESENT*2^16 + KM_LEN*2^8 + DIN_LEN` (R54). -/
def Header.toWord (f : Header) : HeaderWord :=
  BitVec.ofNat 19
    (f.op.bit.toNat * 2 ^ 18 + f.kmPresent.toNat * 2 ^ 17 + f.dinPresent.toNat * 2 ^ 16 + f.kmLen.toNat * 2 ^ 8 +
      f.dinLen.toNat)

/-- The row of the opcode table that a header's fields select: the table's row for exactly these operand values where there is
one, else the operation's row (R62; log 7). -/
def Instr.ofHeader (f : Header) : Instr :=
  match f.op with
  | .encrypt =>
    if isTwoKeyForm f.kmPresent f.dinPresent f.kmLen f.dinLen then .encrypt2K
    else if isThreeKeyForm f.kmPresent f.dinPresent f.kmLen f.dinLen then .encrypt3K
    else .encrypt f.kmPresent f.dinPresent f.kmLen f.dinLen
  | .decrypt =>
    if isTwoKeyForm f.kmPresent f.dinPresent f.kmLen f.dinLen then .decrypt2K
    else if isThreeKeyForm f.kmPresent f.dinPresent f.kmLen f.dinLen then .decrypt3K
    else .decrypt f.kmPresent f.dinPresent f.kmLen f.dinLen

/-- The header fields an instruction stands for: of an alias row, the operation's with the row's operand values. -/
def Instr.header : Instr → Header
  | .encrypt kp dp kl dl => ⟨.encrypt, kp, dp, kl, dl⟩
  | .decrypt kp dp kl dl => ⟨.decrypt, kp, dp, kl, dl⟩
  | .encrypt2K => ⟨.encrypt, true, true, 128#8, 64#8⟩
  | .encrypt3K => ⟨.encrypt, true, true, 192#8, 64#8⟩
  | .decrypt2K => ⟨.decrypt, true, true, 128#8, 64#8⟩
  | .decrypt3K => ⟨.decrypt, true, true, 192#8, 64#8⟩

/-- Decoding is total on 19-bit headers: there is no illegal encoding (R62, R63). -/
def decode (h : HeaderWord) : Instr :=
  Instr.ofHeader (Header.ofWord h)

/-- Why a number is no header. Raised by `decodeNumber` only, never by a step: the header wires are 19 bits wide. -/
inductive DecodeError where
  /-- The number has a bit above bit 18; there is one request format and its header is 19 bits (R53, R54). -/
  | widerThanHeader
  deriving DecidableEq, Repr

/-- Decode a number as a header, bit 0 least significant; a number of more than 19 bits is rejected by name. -/
def decodeNumber (w : Nat) : Except DecodeError Instr :=
  if w < 2 ^ 19 then .ok (decode (BitVec.ofNat 19 w)) else .error .widerThanHeader

/-- The instruction whose table bits are `w`: the table's bits are the header's own, so `nbits` adds nothing (a row's 19 bits are
24 in whole bytes, of which bits 23 to 19 must be 0). -/
def decodeTableWord (_nbits w : Nat) : Option Instr :=
  match decodeNumber w with
  | .ok i => some i
  | .error _ => none

/-- The header of an instruction, written from the opcode table: the operations' fields in their places (R54), the alias rows'
match values. -/
def encode : Instr → HeaderWord
  | .encrypt kp dp kl dl => Header.toWord ⟨.encrypt, kp, dp, kl, dl⟩
  | .decrypt kp dp kl dl => Header.toWord ⟨.decrypt, kp, dp, kl, dl⟩
  | .encrypt2K => 0x38040#19
  | .encrypt3K => 0x3C040#19
  | .decrypt2K => 0x78040#19
  | .decrypt3K => 0x7C040#19

end Sys2Proof
end

