-- ==== Sys2Proof/Config.lean ====
section
/-! DEFINITION. What one TDES_SEQ fixes: the parameters of R6, the codes of R20 and R22, and the values the spec leaves open
(the functions of the external `DES_CORE`; the contents of the data registers after a reset step). The open values are opaque
constants with no body. -/

namespace Sys2Proof.Config

/-- `W`: width of a data block, a sub-key, a `DES_CORE` key, block and result (R6). -/
@[simp] abbrev W : Nat := 64
/-- `KLEN2`: the key-material length that selects two-key mode (R6, R7; 90_conflicts.md C1). -/
@[simp] abbrev KLEN2 : Nat := 128
/-- `KLEN3`: the key-material length that selects three-key mode (R6, R7; 90_conflicts.md C1). -/
@[simp] abbrev KLEN3 : Nat := 192
/-- `KMW`: width of the key-material bus (R6). -/
@[simp] abbrev KMW : Nat := 192
/-- `LENW`: width of a length field (R6). -/
@[simp] abbrev LENW : Nat := 8
/-- `NCALL`: `DES_CORE` calls per successful operation (R6). -/
@[simp] abbrev NCALL : Nat := 3

/-! `STEP` values (R20). 6 and 7 have no name and no step (R21). -/

@[simp] abbrev stepIdle  : BitVec 3 := 0#3
@[simp] abbrev stepCheck : BitVec 3 := 1#3
@[simp] abbrev stepCall1 : BitVec 3 := 2#3
@[simp] abbrev stepCall2 : BitVec 3 := 3#3
@[simp] abbrev stepCall3 : BitVec 3 := 4#3
@[simp] abbrev stepDone  : BitVec 3 := 5#3

/-! `STATUS` and `CAUSE` codes (R22, R122). -/

@[simp] abbrev statusOk                : BitVec 2 := 0#2
@[simp] abbrev statusContractViolation : BitVec 2 := 1#2
@[simp] abbrev statusInternalAssert    : BitVec 2 := 2#2

@[simp] abbrev causeNone      : BitVec 3 := 0#3
@[simp] abbrev causeKmAbsent  : BitVec 3 := 1#3
@[simp] abbrev causeKmLen     : BitVec 3 := 2#3
@[simp] abbrev causeDinAbsent : BitVec 3 := 3#3
@[simp] abbrev causeDinLen    : BitVec 3 := 4#3
@[simp] abbrev causeCoreFail  : BitVec 3 := 5#3

/-- FREE VALUE (93_implementation_defined.md U1; log 3). The block cipher inside `DES_CORE`: for each key with its parity
positions cleared, some permutation of the 64-bit blocks, about which nothing is known. `DES_E` applies it and `DES_D` applies
its inverse (Machine/DesCore.lean), so that R94 and R95 hold by construction, and every pair of functions that meets R93 to R96
is of this form. -/
opaque desPerm : Block → Equiv.Perm Block

/-- The registers whose contents the spec leaves unspecified after reset (R27). -/
structure DataRegs where
  op         : Op
  kmPresent  : Bool
  dinPresent : Bool
  kmLen      : LenField
  dinLen     : LenField
  km         : KeyBus
  din        : Block
  k1         : Block
  k2         : Block
  k3         : Block
  mode       : KeyMode
  t          : Block
  dout       : Block
  deriving DecidableEq, Repr, Inhabited

/-- FREE VALUE (R27, R142; 93_implementation_defined.md U2, U13; log 2). What the data registers hold after the n-th reset
step, given what they held before it: kept, cleared or anything else. -/
opaque afterReset : Nat → DataRegs → DataRegs

end Sys2Proof.Config
end

