-- ==== Sys2Proof/Machine/State.lean ====
section
/-! DEFINITION. The state of TDES_SEQ (10_state.md R13), with the two agents around it (the host's wires and `DES_CORE`'s behaviour)
held as plain data; the reasons a step can stop; the state after reset (R27). -/

namespace Sys2Proof.Machine

/-- A call presented to `DES_CORE` (R64). -/
structure Call where
  dir : Dir
  key : Block
  blk : Block
  deriving DecidableEq, Repr

/-- An answered call, as the trace records it (R12, R23). -/
structure CallRecord where
  dir : Dir
  key : Block
  blk : Block
  res : Block
  deriving DecidableEq, Repr

/-- What `DES_CORE` does when the block looks for the answer to a pending call. -/
inductive CoreAnswer where
  /-- It answers `ok(RES)` (R65). -/
  | ok
  /-- It answers `fail` (R65). -/
  | fail
  /-- It has not answered yet (R152). -/
  | silent
  deriving DecidableEq, Repr

/-- The behaviour of the `DES_CORE` agent: one entry each time it is polled, then `after` for ever (log 5). -/
structure CoreScript where
  script : List CoreAnswer
  after  : CoreAnswer
  deriving DecidableEq, Repr

/-- The host's wires during one step: the reset input (R141) and the request (R53), with the bit that says one is presented. -/
structure HostWires where
  reset : Bool
  req   : Bool
  hdr   : HeaderWord
  km    : KeyBus
  din   : Block
  deriving DecidableEq, Repr

/-- How much of R24 one step of the model takes (R24 allows both views; log 6). -/
inductive Grain where
  /-- One step of the model is one step (a) to (e) of R24. -/
  | micro
  /-- One step of the model runs on until the operation has ended or the block waits for `DES_CORE`. -/
  | operation
  deriving DecidableEq, Repr

/-- The state: the items of R13's table, then the model's own fields (log 2, 4, 5, 6). -/
structure State where
  /-- `OP` (R13, R14). -/
  op : Op
  /-- `KM_PRESENT` (R13, R14). -/
  kmPresent : Bool
  /-- `DIN_PRESENT` (R13, R14). -/
  dinPresent : Bool
  /-- `KM_LEN` (R13, R14). -/
  kmLen : LenField
  /-- `DIN_LEN` (R13, R14). -/
  dinLen : LenField
  /-- `KM`, the latched key-material bus (R15). -/
  km : KeyBus
  /-- `DIN`, the latched data block (R16). -/
  din : Block
  /-- `K[1]` (R17). -/
  k1 : Block
  /-- `K[2]` (R17). -/
  k2 : Block
  /-- `K[3]` (R17). -/
  k3 : Block
  /-- `MODE` (R18). -/
  mode : KeyMode
  /-- `T`, the working register (R19). -/
  t : Block
  /-- `STEP` (R20, R21). -/
  step : BitVec 3
  /-- `STATUS` (R22). -/
  status : BitVec 2
  /-- `CAUSE` (R22). -/
  cause : BitVec 3
  /-- `DOUT` (R23). -/
  dout : Block
  /-- `DOUT_VALID` (R23). -/
  doutValid : Bool
  /-- `PEND`, the call issued and not yet answered (R23). -/
  pend : Option Call
  /-- `TRACE`, ghost: the answered calls of the operation, in order (R23). -/
  trace : List CallRecord
  /-- Model's own: the host's wires now. -/
  host : HostWires
  /-- Model's own: what the host drives in the steps after this one. -/
  hostNext : List HostWires
  /-- Model's own: what `DES_CORE` will do. -/
  core : CoreScript
  /-- Model's own: the grain of a step. -/
  grain : Grain
  /-- Model's own: reset steps so far; the counter that the free register contents after a reset are drawn with. -/
  resets : Nat
  deriving DecidableEq, Repr

/-- Why the machine stops. -/
inductive Fault where
  /-- `STEP` holds 6 or 7, which the spec gives no step (R21; 93_implementation_defined.md U6: stuck; log 12). Raised by `blockMove`, so by
  every operation and by `step` in such a state without reset. Safe: the spec's machine does nothing either, and no run from reset
  gets there. -/
  | stuckStep
  deriving DecidableEq, Repr

/-- Why an instruction has no meaning. -/
inductive Refusal where
  /-- The host's form of an arm that has no meaning yet. Raised by no arm: every instruction has its meaning. Safe. -/
  | notModelled (mnemonic : String)
  deriving DecidableEq, Repr

/-- Right after reset (R27): `STEP`, `STATUS`, `CAUSE`, `DOUT_VALID` 0, `PEND` and `TRACE` empty. DESIGN CHOICE (log 1, unsafe): the
other registers, which the spec gives no value, are 0. DESIGN CHOICE (log 4, 5, 6): the host presents nothing, `DES_CORE` answers
every call, a step is a whole operation. -/
def State.reset : State where
  op := .encrypt
  kmPresent := false
  dinPresent := false
  kmLen := 0#8
  dinLen := 0#8
  km := 0#192
  din := 0#64
  k1 := 0#64
  k2 := 0#64
  k3 := 0#64
  mode := .twoKey
  t := 0#64
  step := Config.stepIdle
  status := Config.statusOk
  cause := Config.causeNone
  dout := 0#64
  doutValid := false
  pend := none
  trace := []
  host := ⟨false, false, 0#19, 0#192, 0#64⟩
  hostNext := []
  core := ⟨[], .ok⟩
  grain := .operation
  resets := 0

end Sys2Proof.Machine
end

