-- ==== Sys2Proof/Machine/DesCore.lean ====
section
/-! DEFINITION. The port of `DES_CORE` (30_encoding.md R64, R65) and the contract of the attached core (41_ede_sequence.md R93 to R96).
The sequencer is written for ANY pair of functions (R145); the machine's own core is `desCore`. -/

namespace Sys2Proof.Machine

/-- A `DES_CORE`: two functions of a key and a block, key first (R93), of their arguments alone and total (R96). -/
structure DesCore where
  enc : Block → Block → Block
  dec : Block → Block → Block

/-- The answer `RES` to a call (R99): `DES_E(k, x)` if `DIR` = 0, `DES_D(k, x)` if `DIR` = 1. -/
def DesCore.answer (c : DesCore) (call : Call) : Block :=
  match call.dir with
  | .encrypt => c.enc call.key call.blk
  | .decrypt => c.dec call.key call.blk

/-- The key with its parity positions 7, 15, ..., 63 cleared (R95). -/
def clearParity (k : Block) : Block :=
  k &&& 0xFEFEFEFEFEFEFEFE#64

/-- `DES_E(k, x)`: the opaque permutation of the effective key (R93, R95, R96; log 3). -/
def desE (k x : Block) : Block :=
  Config.desPerm (clearParity k) x

/-- `DES_D(k, x)`: the inverse permutation (R94; log 3). -/
def desD (k x : Block) : Block :=
  (Config.desPerm (clearParity k)).symm x

/-- The `DES_CORE` attached to this block. -/
def desCore : DesCore :=
  ⟨desE, desD⟩

end Sys2Proof.Machine
end

