-- ==== Sys2Proof/Machine/Ops.lean ====
section
/-! DEFINITION. The named operations on sequences and on the state that every instruction is built from: the bit and window reads,
accepting a request, the two fault entries (the block's only exceptions), completion, reset, and the moves of the two agents. -/

namespace Sys2Proof.Machine

/-! ## Sequences (R8, R9, R42) -/

/-- `s[i]`: index 0 is the most significant bit (R9). -/
def seqBit {n : Nat} (s : BitVec n) (i : Nat) : Bool :=
  s.getMsbD i

/-- `s` as a number (R9). -/
def seqVal {n : Nat} (s : BitVec n) : Nat :=
  s.toNat

/-- Byte `n` of a sequence: indices `8n` to `8n + 7`, index `8n` the most significant (R39). -/
def seqByte {w : Nat} (s : BitVec w) (n : Nat) : BitVec 8 :=
  s.extractLsb' (w - 8 * (n + 1)) 8

/-- A hex digit (R9). -/
def hexDigit (d : BitVec 4) : Char :=
  if d.toNat < 10 then Char.ofNat (48 + d.toNat) else Char.ofNat (55 + d.toNat)

/-- The hex rendering of a sequence whose length is a multiple of 4: the first digit holds indices 0 to 3, the lowest index being the
digit's most significant bit (R9). -/
def seqHex {w : Nat} (s : BitVec w) : List Char :=
  (List.range (w / 4)).map fun i => hexDigit (s.extractLsb' (w - 4 * (i + 1)) 4)

/-- `Zero(n)` (R11, R42). -/
def zeroSeq (n : Nat) : BitVec n :=
  0#n

/-- `CopyBits(dst, dstOff, src, srcStart, n)` (R42), with its `requires` clause as two hypotheses: a copy that leaves its source
or its destination, to which the spec gives no behaviour (91_not_in_source.md N7), cannot be written. -/
def copyBits {dl sl : Nat} (dst : BitVec dl) (dstOff : Nat) (src : BitVec sl) (srcStart n : Nat)
    (_src : srcStart + n ≤ sl) (_dst : dstOff + n ≤ dl) : BitVec dl :=
  let place := dl - (dstOff + n)
  let mask := (BitVec.allOnes n).setWidth dl <<< place
  let field := (src.extractLsb' (sl - (srcStart + n)) n).setWidth dl <<< place
  (dst &&& ~~~mask) ||| field

/-- The window read `KM[a..a+64)` (R42). -/
def window (km : KeyBus) (a : Nat) (h : a + Config.W ≤ Config.KMW) : Block :=
  copyBits (zeroSeq Config.W) 0 km a Config.W h (by decide)

/-! ## The agents outside the block -/

/-- What `DES_CORE` does if it is polled now (log 5). -/
def CoreScript.now (c : CoreScript) : CoreAnswer :=
  c.script.headD c.after

/-- `DES_CORE` has been polled once. -/
def CoreScript.advance (c : CoreScript) : CoreScript :=
  { c with script := c.script.tail }

/-- Move `DES_CORE`'s script past one poll. -/
def coreMoves (s : State) : State :=
  { s with core := s.core.advance }

/-- What the host drives in the step after this one: what its list says, or no request and no reset when the list is used up
(log 4). -/
def nextWires (s : State) : HostWires :=
  match s.hostNext with
  | [] => { s.host with reset := false, req := false }
  | w :: _ => w

/-- The host drives its wires for the next step. -/
def hostMoves (s : State) : State :=
  { s with host := nextWires s, hostNext := s.hostNext.tail }

/-- Apply a state update to the next state of an outcome. -/
def onNext (f : State → State) : Host.Outcome State Fault Refusal → Host.Outcome State Fault Refusal
  | .next s => .next (f s)
  | .fault r => .fault r
  | .refused r => .refused r

/-! ## Accept (R14) -/

/-- Latch the whole request, `f` being its header's fields and the operands being on the host's buses, and start (R14). -/
def accept (f : Header) (s : State) : State :=
  { s with
    op := f.op, kmPresent := f.kmPresent, dinPresent := f.dinPresent, kmLen := f.kmLen, dinLen := f.dinLen,
    km := s.host.km, din := s.host.din,
    step := Config.stepCheck, doutValid := false, trace := [], pend := none }

/-! ## Fault entry and completion (R102, R123, R125)

There is no return from a fault: `STEP` is then 5 as after a success, and the next request is accepted on the same terms (R126). -/

/-- `raise ContractViolation(c)`: nothing else is written (R123). -/
def raiseContractViolation (c : BitVec 3) (s : State) : State :=
  { s with status := Config.statusContractViolation, cause := c, doutValid := false, step := Config.stepDone }

/-- `raise InternalAssert()` (R125). -/
def raiseInternalAssert (s : State) : State :=
  { s with
    pend := none, status := Config.statusInternalAssert, cause := Config.causeCoreFail, doutValid := false,
    step := Config.stepDone }

/-- Completion (R102). DEDUCED (log 13, unsafe): `KM`, `K[1..3]` and `T` keep their contents; R13, R17, R102 and R150 name no write to them
here, while D13 and U13 leave open whether they are cleared. -/
def complete (s : State) : State :=
  { s with
    dout := s.t, status := Config.statusOk, cause := Config.causeNone, doutValid := true, step := Config.stepDone }

/-! ## Reset (R27, R141, R143) -/

/-- The registers that a reset leaves unspecified, as one record (R27). -/
def State.dataRegs (s : State) : Config.DataRegs where
  op := s.op
  kmPresent := s.kmPresent
  dinPresent := s.dinPresent
  kmLen := s.kmLen
  dinLen := s.dinLen
  km := s.km
  din := s.din
  k1 := s.k1
  k2 := s.k2
  k3 := s.k3
  mode := s.mode
  t := s.t
  dout := s.dout

/-- The reset step: the six items R141 names get their values, a pending call is dropped (R143), and every other register is
unspecified (R27, R142): a free value (log 2). -/
def resetEntry (s : State) : State :=
  let d := Config.afterReset s.resets s.dataRegs
  { s with
    op := d.op, kmPresent := d.kmPresent, dinPresent := d.dinPresent, kmLen := d.kmLen, dinLen := d.dinLen,
    km := d.km, din := d.din, k1 := d.k1, k2 := d.k2, k3 := d.k3, mode := d.mode, t := d.t, dout := d.dout,
    step := Config.stepIdle, status := Config.statusOk, cause := Config.causeNone, doutValid := false,
    pend := none, trace := [], resets := s.resets + 1 }

end Sys2Proof.Machine
end

