-- ==== Sys2Proof/Machine/Flags.lean ====
section
/-! DEFINITION. The block's flags: which cause a request raises (R75 to R79, R122), the legal pairs of `STATUS` and `CAUSE` (R22),
and the response the host reads (R60). -/

namespace Sys2Proof.Machine

/-- VALIDATE's four checks in their order, the first that fails giving the cause (R75 to R79, R124); `none` when all pass. The
lengths are compared as zero-extended integers (R86). -/
def violation (kmPresent : Bool) (kmLen : LenField) (dinPresent : Bool) (dinLen : LenField) : Option (BitVec 3) :=
  if kmPresent = false then some Config.causeKmAbsent
  else if kmLen.toNat ≠ Config.KLEN2 ∧ kmLen.toNat ≠ Config.KLEN3 then some Config.causeKmLen
  else if dinPresent = false then some Config.causeDinAbsent
  else if dinLen.toNat ≠ Config.W then some Config.causeDinLen
  else none

/-- `STEP` is `IDLE` or `DONE`: the accept step is enabled (R24, R147). -/
def accepting (s : State) : Bool :=
  s.step == Config.stepIdle || s.step == Config.stepDone

/-- `STEP` is `CALL1`, `CALL2` or `CALL3` (R20). -/
def calling (s : State) : Bool :=
  s.step == Config.stepCall1 || s.step == Config.stepCall2 || s.step == Config.stepCall3

/-- `BUSY` (R60): `STEP` is in 1..4. -/
def busy (s : State) : Bool :=
  s.step == Config.stepCheck || calling s

/-- `DONE` (R60): `STEP` is 5. -/
def done (s : State) : Bool :=
  s.step == Config.stepDone

/-- `STEP` holds 6 or 7, which have no step (R21). -/
def stuck (s : State) : Bool :=
  s.step == 6#3 || s.step == 7#3

/-- The response (R60). A part that has no meaning at the moment (R23, R149; 93_implementation_defined.md U3, U4) is `none` (log 11). -/
structure Response where
  busy      : Bool
  done      : Bool
  status    : Option (BitVec 2)
  cause     : Option (BitVec 3)
  doutValid : Bool
  dout      : Option Block
  deriving DecidableEq, Repr

/-- What the host reads; reading changes nothing (R60), and nothing else can be read (R26). -/
def response (s : State) : Response where
  busy := busy s
  done := done s
  status := if done s then some s.status else none
  cause := if done s then some s.cause else none
  doutValid := s.doutValid
  dout := if s.doutValid then some s.dout else none

end Sys2Proof.Machine
end

