-- ==== Sys2Proof/Machine/Operands.lean ====
section
/-! DEFINITION. Operand assembly: the sub-keys cut from the key material (R61, R80 to R83), the sub-key registers, and the direction
and key of each call (R100). -/

namespace Sys2Proof.Machine

/-- `KM[0..64)` (R80). -/
def subKey1 (km : KeyBus) : Block :=
  window km 0 (by decide)

/-- `KM[64..128)` (R81). -/
def subKey2 (km : KeyBus) : Block :=
  window km 64 (by decide)

/-- `KM[128..192)` when the material has `KLEN3` bits (R82), else `KM[0..64)` (R83). -/
def subKey3 (kmLen : LenField) (km : KeyBus) : Block :=
  if kmLen.toNat = Config.KLEN3 then window km 128 (by decide) else window km 0 (by decide)

/-- The mode tag (R84). -/
def modeOf (kmLen : LenField) : KeyMode :=
  if kmLen.toNat = Config.KLEN3 then .threeKey else .twoKey

/-- `K[j]` (R17). -/
def State.subKey (s : State) : KeyIx → Block
  | .k1 => s.k1
  | .k2 => s.k2
  | .k3 => s.k3

/-- Direction and key of call number `n`, 1 to 3: the table of R100. -/
def callRow : Op → Nat → Dir × KeyIx
  | .encrypt, 1 => (.encrypt, .k1)
  | .encrypt, 2 => (.decrypt, .k2)
  | .encrypt, _ => (.encrypt, .k3)
  | .decrypt, 1 => (.decrypt, .k3)
  | .decrypt, 2 => (.encrypt, .k2)
  | .decrypt, _ => (.decrypt, .k1)

/-- The number of the call that `STEP` selects: `STEP` = n + 1 (R99). -/
def callNumber (s : State) : Nat :=
  s.step.toNat - 1

/-- The call the block issues in this state: `(dir_n, K[key_n], T)` (R64, R99). -/
def nextCall (s : State) : Call :=
  let row := callRow s.op (callNumber s)
  ⟨row.1, s.subKey row.2, s.t⟩

end Sys2Proof.Machine
end

