-- ==== Sys2Proof/Machine/Splitter.lean ====
section
/-! DEFINITION. The key-splitter: KEYSPLIT and the CHECK step (40_key_split.md). -/

namespace Sys2Proof.Machine

/-- KEYSPLIT (R80 to R84, R88): the three sub-keys, the mode tag, the data block into `T`, `STEP` to 2. No bit of a key is inspected
(R85). -/
def keySplit (s : State) : State :=
  { s with
    k1 := subKey1 s.km, k2 := subKey2 s.km, k3 := subKey3 s.kmLen s.km, mode := modeOf s.kmLen,
    t := s.din, step := Config.stepCall1 }

/-- The CHECK step: VALIDATE, then KEYSPLIT if it passes (R20, R75, R123). -/
def check (s : State) : State :=
  match violation s.kmPresent s.kmLen s.dinPresent s.dinLen with
  | some c => raiseContractViolation c s
  | none => keySplit s

end Sys2Proof.Machine
end

