-- ==== Sys2Proof/Machine/Sequencer.lean ====
section
/-! DEFINITION. The EDE sequencer: the CALL micro-operation, the block's own step, and a request presented to the block
(41_ede_sequence.md; 10_state.md R20, R24). `c` is the `DES_CORE` attached to the port. -/

namespace Sys2Proof.Machine

/-- Issue of a call: `PEND <- (dir_n, K[key_n], T)` (R99). -/
def issueCall (s : State) : State :=
  { s with pend := some (nextCall s) }

/-- The `ok(r)` answer to `call`, before `STEP` moves: `TRACE`, `T`, `PEND` (R99). -/
def takeAnswer (call : Call) (r : Block) (s : State) : State :=
  { s with trace := s.trace ++ [⟨call.dir, call.key, call.blk, r⟩], t := r, pend := none }

/-- `STEP` moves on to the next call (R99). -/
def advanceStep (s : State) : State :=
  { s with step := s.step + 1#3 }

/-- After an `ok` answer: the next call, or completion after call 3 (R99, R102). -/
def afterAnswer (s : State) : State :=
  if s.step = Config.stepCall3 then complete s else advanceStep s

/-- `DES_CORE` is polled for the answer to the pending call (R99): `ok` takes the answer, `fail` raises InternalAssert (R125), silence
leaves the block waiting (R152). -/
def pollCall (c : DesCore) (call : Call) (s : State) : State :=
  match s.core.now with
  | .ok => afterAnswer (takeAnswer call (c.answer call) (coreMoves s))
  | .fail => raiseInternalAssert (coreMoves s)
  | .silent => coreMoves s

/-- The one block step that is enabled (R24 (b), (c), (d)); in `IDLE` and `DONE`, and where `STEP` has no step, nothing changes. -/
def tick (c : DesCore) (s : State) : State :=
  if s.step = Config.stepCheck then check s
  else if calling s then
    match s.pend with
    | none => issueCall s
    | some call => pollCall c call s
  else s

/-- The block waits for an answer that is not there (R152). -/
def waitingForCore (s : State) : Bool :=
  calling s && s.pend.isSome && s.core.now == .silent

/-- Run the block's own steps until the operation has ended or the block waits for `DES_CORE`, at most `n` of them. -/
def settle (c : DesCore) : Nat → State → State
  | 0, s => s
  | n + 1, s => if !busy s || waitingForCore s then s else settle c n (tick c s)

/-- The steps of one operation after its accept: CHECK, and issue and answer of three calls (R20, R24). -/
def stepsPerOperation : Nat :=
  1 + 2 * Config.NCALL

/-- What follows one step of R24 within the same step of the model (log 6). -/
def goOn (c : DesCore) (s : State) : State :=
  match s.grain with
  | .micro => s
  | .operation => settle c stepsPerOperation s

/-- A step in which the host presents nothing, or presents a request to a busy block: the block's own step (R24, R147). `STEP` 6 and 7
have none (R21). -/
def blockMove (c : DesCore) (s : State) : Host.Outcome State Fault Refusal :=
  if stuck s then .fault .stuckStep else .next (goOn c (tick c s))

/-- A step in which the host presents the request with header fields `f`: accepted in `IDLE` and `DONE` (R14); while the block is busy it
has no effect and is not queued (R147). -/
def request (c : DesCore) (f : Header) (s : State) : Host.Outcome State Fault Refusal :=
  if accepting s then .next (goOn c (accept f s)) else blockMove c s

end Sys2Proof.Machine
end

