-- ==== Sys2Proof/Machine/Operations.lean ====
section
/-! DEFINITION. The meanings of the instructions: ENCRYPT (R97), DECRYPT (R98) and the opcode table's four alias rows, each the
operation with the operand values the row fixes (R62). -/

namespace Sys2Proof.Machine

/-- `ENCRYPT` (R97). -/
def execEncrypt (kmPresent dinPresent : Bool) (kmLen dinLen : LenField) (s : State) : Host.Outcome State Fault Refusal :=
  request desCore ⟨.encrypt, kmPresent, dinPresent, kmLen, dinLen⟩ s

/-- `DECRYPT` (R98). -/
def execDecrypt (kmPresent dinPresent : Bool) (kmLen dinLen : LenField) (s : State) : Host.Outcome State Fault Refusal :=
  request desCore ⟨.decrypt, kmPresent, dinPresent, kmLen, dinLen⟩ s

/-- `ENCRYPT.2K`: the valid two-key form of `ENCRYPT` (R83, R97). -/
def execEncrypt2K (s : State) : Host.Outcome State Fault Refusal :=
  request desCore ⟨.encrypt, true, true, 128#8, 64#8⟩ s

/-- `ENCRYPT.3K`: the valid three-key form of `ENCRYPT` (R82, R97). -/
def execEncrypt3K (s : State) : Host.Outcome State Fault Refusal :=
  request desCore ⟨.encrypt, true, true, 192#8, 64#8⟩ s

/-- `DECRYPT.2K`: the valid two-key form of `DECRYPT` (R83, R98). -/
def execDecrypt2K (s : State) : Host.Outcome State Fault Refusal :=
  request desCore ⟨.decrypt, true, true, 128#8, 64#8⟩ s

/-- `DECRYPT.3K`: the valid three-key form of `DECRYPT` (R82, R98). -/
def execDecrypt3K (s : State) : Host.Outcome State Fault Refusal :=
  request desCore ⟨.decrypt, true, true, 192#8, 64#8⟩ s

end Sys2Proof.Machine
end

