-- ==== Sys2Proof/Machine/Dispatch.lean ====
section
/-! DEFINITION. One arm per row of the opcode table. -/

namespace Sys2Proof.Machine

def exec (i : Instr) (s : State) : Host.Outcome State Fault Refusal :=
  match i with
  | .encrypt kmPresent dinPresent kmLen dinLen => Sys2Proof.Machine.execEncrypt kmPresent dinPresent kmLen dinLen s
  | .decrypt kmPresent dinPresent kmLen dinLen => Sys2Proof.Machine.execDecrypt kmPresent dinPresent kmLen dinLen s
  | .encrypt2K => Sys2Proof.Machine.execEncrypt2K s
  | .encrypt3K => Sys2Proof.Machine.execEncrypt3K s
  | .decrypt2K => Sys2Proof.Machine.execDecrypt2K s
  | .decrypt3K => Sys2Proof.Machine.execDecrypt3K s

end Sys2Proof.Machine
end

