-- ==== Sys2Proof/Machine/Step.lean ====
section
/-! DEFINITION. One step of the machine, and how the host tool places an instruction. -/

namespace Sys2Proof.Machine

/-- One step (R24). Reset is always enabled and wins over everything (R141; log 8). Else, if the host presents a request, its header is
decoded and executed; else the block makes its own step. The host's wires move on after the step. -/
def step (s : State) : Host.Outcome State Fault Refusal :=
  if s.host.reset then .next (hostMoves (resetEntry s))
  else if s.host.req then onNext hostMoves (exec (decode s.host.hdr) s)
  else onNext hostMoves (blockMove desCore s)

/-- The host presents, in this step, the request whose header is the low 19 bits of `w` and whose operand buses are 0, and the block is
ready to accept it (log 10). -/
def State.withFetchWord (s : State) (_nbits w : Nat) : State :=
  { s with
    host := ⟨false, true, BitVec.ofNat 19 w, 0#192, 0#64⟩
    step := if accepting s then s.step else Config.stepIdle }

end Sys2Proof.Machine
end

