-- ==== Sys2Proof/Safety.lean ====
section
/-! DEFINITION. What the claims are stated in: the calls and the result of an operation as the spec writes them, the states a request
ends in, and the invariant of the machine. Written from the rules, not from the step function. -/

namespace Sys2Proof.Safety

open Sys2Proof.Machine

/-! ## One operation, as R97, R98 and R89 write it -/

/-- The sub-keys of the key material (R89): `KM[0..64)` is vector bits 191 down to 128 (R9), and so on. -/
def keyOf (kmLen : LenField) (km : KeyBus) : KeyIx → Block
  | .k1 => km.extractLsb' 128 64
  | .k2 => km.extractLsb' 64 64
  | .k3 => if kmLen = 192#8 then km.extractLsb' 0 64 else km.extractLsb' 128 64

/-- `DOUT` of an operation with three given keys (R97, R98). -/
def resultOf (c : DesCore) (op : Op) (key : KeyIx → Block) (x : Block) : Block :=
  match op with
  | .encrypt => c.enc (key .k3) (c.dec (key .k2) (c.enc (key .k1) x))
  | .decrypt => c.dec (key .k1) (c.enc (key .k2) (c.dec (key .k3) x))

/-- The three calls of an operation, in order (R97, R98, R109). -/
def callsOf (c : DesCore) (op : Op) (key : KeyIx → Block) (x : Block) : List CallRecord :=
  match op with
  | .encrypt =>
    let t1 := c.enc (key .k1) x
    let t2 := c.dec (key .k2) t1
    [⟨.encrypt, key .k1, x, t1⟩, ⟨.decrypt, key .k2, t1, t2⟩, ⟨.encrypt, key .k3, t2, c.enc (key .k3) t2⟩]
  | .decrypt =>
    let t1 := c.dec (key .k3) x
    let t2 := c.enc (key .k2) t1
    [⟨.decrypt, key .k3, x, t1⟩, ⟨.encrypt, key .k2, t1, t2⟩, ⟨.decrypt, key .k1, t2, c.dec (key .k1) t2⟩]

/-- What `T` holds after `n` answered calls: the data block, then the last result (R19). -/
def workingOf (calls : List CallRecord) (x : Block) (n : Nat) : Block :=
  match (calls.take n).getLast? with
  | none => x
  | some r => r.res

/-- The operand values of a valid request (R76 to R79). -/
abbrev ValidOperands (kmPresent dinPresent : Bool) (kmLen dinLen : LenField) : Prop :=
  kmPresent = true ∧ (kmLen = 128#8 ∨ kmLen = 192#8) ∧ dinPresent = true ∧ dinLen = 64#8

/-- `cause` is the one a request with these operand values reports: the four conditions of R122's table, which exclude each other. -/
abbrev Reports (kmPresent dinPresent : Bool) (kmLen dinLen : LenField) (cause : BitVec 3) : Prop :=
  (kmPresent = false ∧ cause = 1#3) ∨
  (kmPresent = true ∧ ¬ (kmLen = 128#8 ∨ kmLen = 192#8) ∧ cause = 2#3) ∨
  (kmPresent = true ∧ (kmLen = 128#8 ∨ kmLen = 192#8) ∧ dinPresent = false ∧ cause = 3#3) ∨
  (kmPresent = true ∧ (kmLen = 128#8 ∨ kmLen = 192#8) ∧ dinPresent = true ∧ dinLen ≠ 64#8 ∧ cause = 4#3)

/-! ## The state a request ends in -/

/-- What the next `n` polls of `DES_CORE` give. -/
def nextAnswers : Nat → CoreScript → List CoreAnswer
  | 0, _ => []
  | n + 1, c => c.now :: nextAnswers n c.advance

/-- `DES_CORE`'s script after `n` polls. -/
def afterPolls : Nat → CoreScript → CoreScript
  | 0, c => c
  | n + 1, c => afterPolls n c.advance

/-- The latched request (R14) with nothing else changed but `PEND` and `TRACE`, which are empty. -/
def latched (f : Header) (s : State) : State :=
  { s with
    op := f.op, kmPresent := f.kmPresent, dinPresent := f.dinPresent, kmLen := f.kmLen, dinLen := f.dinLen,
    km := s.host.km, din := s.host.din, pend := none, trace := [] }

/-- After the split (R80 to R84, R88) and `n` answered calls: sub-keys, mode, working register, trace (R99). -/
def working (c : DesCore) (f : Header) (n : Nat) (s : State) : State :=
  let key := keyOf f.kmLen s.host.km
  let calls := callsOf c f.op key s.host.din
  { latched f s with
    k1 := key .k1, k2 := key .k2, k3 := key .k3,
    mode := if f.kmLen = 192#8 then .threeKey else .twoKey,
    t := workingOf calls s.host.din n, trace := calls.take n }

/-- The end of a valid request whose three calls are answered (R97, R98, R102). That `KM`, `K[1..3]` and `T` keep their contents is
log 13. -/
def completed (c : DesCore) (f : Header) (s : State) : State :=
  { working c f 3 s with
    dout := resultOf c f.op (keyOf f.kmLen s.host.km) s.host.din,
    step := 5#3, status := 0#2, cause := 0#3, doutValid := true, core := afterPolls 3 s.core }

/-- The end of a request that violates its contract (R123). -/
def rejected (cause : BitVec 3) (f : Header) (s : State) : State :=
  { latched f s with step := 5#3, status := 1#2, cause := cause, doutValid := false }

/-- The end of a valid request of which `n` calls were answered and the next failed (R125). -/
def aborted (c : DesCore) (f : Header) (n : Nat) (s : State) : State :=
  { working c f n s with step := 5#3, status := 2#2, cause := 5#3, doutValid := false, core := afterPolls (n + 1) s.core }

/-- A valid request of which `n` calls are answered, the next is pending, and `DES_CORE` is silent (R99, R152). -/
def waiting (c : DesCore) (f : Header) (n : Nat) (s : State) : State :=
  let key := keyOf f.kmLen s.host.km
  let calls := callsOf c f.op key s.host.din
  { working c f n s with
    step := BitVec.ofNat 3 (n + 2), doutValid := false, core := afterPolls n s.core,
    pend := calls[n]?.map fun r => ⟨r.dir, r.key, r.blk⟩ }

/-! ## Environments and comparisons -/

/-- The host asserts neither reset nor a request. -/
abbrev Quiet (w : HostWires) : Prop :=
  w.reset = false ∧ w.req = false

/-- Two sequences agree at every index below `n` that is not a parity position (R90, R95). -/
abbrev AgreeOffParity {n : Nat} (a b : BitVec n) : Prop :=
  ∀ i, i < n → i % 8 ≠ 7 → a.getMsbD i = b.getMsbD i

/-- A call and its answer as the inverse operation makes it: direction flipped, `BLK` and `RES` exchanged (R109). -/
def flipCall (r : CallRecord) : CallRecord :=
  ⟨match r.dir with | .encrypt => .decrypt | .decrypt => .encrypt, r.key, r.res, r.blk⟩

/-- The state with another key-material bus. -/
def withKm (s : State) (km : KeyBus) : State :=
  { s with host := { s.host with km := km } }

/-- The state with another data bus. -/
def withDin (s : State) (din : Block) : State :=
  { s with host := { s.host with din := din } }

/-! ## The invariant -/

/-- The legal pairs of `STATUS` and `CAUSE` (R22). -/
abbrev LegalPair (status : BitVec 2) (cause : BitVec 3) : Prop :=
  (status = 0#2 ∧ cause = 0#3) ∨ (status = 1#2 ∧ (cause = 1#3 ∨ cause = 2#3 ∨ cause = 3#3 ∨ cause = 4#3)) ∨ (status = 2#2 ∧ cause = 5#3)

/-- The calls of the latched operation. -/
def latchedCalls (s : State) : List CallRecord :=
  callsOf desCore s.op (keyOf s.kmLen s.km) s.din

/-- The sub-key registers and `MODE` hold the split of the latched key material, which is valid, and `n` calls have been answered. -/
structure InOperation (n : Nat) (s : State) : Prop where
  valid : ValidOperands s.kmPresent s.dinPresent s.kmLen s.dinLen
  key1  : s.k1 = keyOf s.kmLen s.km .k1
  key2  : s.k2 = keyOf s.kmLen s.km .k2
  key3  : s.k3 = keyOf s.kmLen s.km .k3
  tag   : s.mode = if s.kmLen = 192#8 then .threeKey else .twoKey
  trace : s.trace = (latchedCalls s).take n
  work  : s.t = workingOf (latchedCalls s) s.din n

/-- The invariant of the machine: what holds at reset and after every step. -/
structure Invariant (s : State) : Prop where
  /-- `STEP` never holds 6 or 7 (R21). -/
  stepLegal : s.step.toNat ≤ 5
  /-- `STATUS` and `CAUSE` are a legal pair (R22). -/
  pair : LegalPair s.status s.cause
  /-- `DOUT_VALID` = 1 exactly when `STEP` = 5 and `STATUS` = OK (R23). -/
  valid : s.doutValid = true ↔ (s.step = 5#3 ∧ s.status = 0#2)
  /-- No call is pending outside `CALL1` to `CALL3` (R14, R99, R123, R141). -/
  pendCalling : s.step.toNat < 2 ∨ s.step = 5#3 → s.pend = none
  /-- A pending call is the one the operation makes next (R99, R100). -/
  pendNext : ∀ call, s.pend = some call →
    (latchedCalls s)[s.step.toNat - 2]?.map (fun r => (⟨r.dir, r.key, r.blk⟩ : Call)) = some call
  /-- No call is recorded before the first answer (R14, R141). -/
  traceEmpty : s.step.toNat < 2 → s.trace = []
  /-- In `CALL1`, `CALL2`, `CALL3` the operation has made 0, 1, 2 calls (R99). -/
  calling : s.step = 2#3 ∨ s.step = 3#3 ∨ s.step = 4#3 → InOperation (s.step.toNat - 2) s
  /-- After a success the operation has made its three calls and `DOUT` is their result (R97, R98, R102); that the latch, the sub-keys
  and `T` still hold what it used is log 13. -/
  doneOk : s.step = 5#3 → s.status = 0#2 →
    InOperation 3 s ∧ s.dout = resultOf desCore s.op (keyOf s.kmLen s.km) s.din
  /-- After a contract violation no call was made and the cause is the first failing check's (R123, R124). -/
  doneRejected : s.step = 5#3 → s.status = 1#2 →
    s.trace = [] ∧ Reports s.kmPresent s.dinPresent s.kmLen s.dinLen s.cause
  /-- After an internal assertion fewer than three calls were answered (R125). -/
  doneAborted : s.step = 5#3 → s.status = 2#2 → ∃ n, n < 3 ∧ InOperation n s

/-- A safe outcome of a step: it goes on, to a state that keeps the invariant. -/
def SafeOutcome : Host.Outcome State Fault Refusal → Prop
  | .next s => Invariant s
  | .fault _ => False
  | .refused _ => False

end Sys2Proof.Safety
end

