-- ==== Sys2Proof/Certificates/Slice0/Obligations.lean ====
section
/-! DEFINITION. The statements for the provers. Each docstring names the rules of spec/ it formalises; OBLIGATIONS.json lists them. -/

open Sys2Proof Sys2Proof.Machine Sys2Proof.Safety

/-! ## Encoding -/

/-- R54, R62, R63: no bit of an encoding is dropped: decoding the encoding of a well-formed instruction gives it back. -/
def Obligations.DecodeOfEncode : Prop :=
  ∀ i : Instr, i.wellFormed = true → decode (encode i) = i

/-- R54, R63: all 2^19 headers are well formed: each decodes to a well-formed instruction whose encoding is that header. -/
def Obligations.EncodeOfDecode : Prop :=
  ∀ h : HeaderWord, (decode h).wellFormed = true ∧ encode (decode h) = h

/-- R54: the five fields stand where the header format puts them, the header is their weighted sum (so no bit is reserved, and every
header is well formed), and the four common headers have the fields the rule gives them. -/
def Obligations.HeaderFieldPlaces : Prop :=
  (∀ h : HeaderWord,
    let f := (decode h).header
    (decode h).wellFormed = true ∧ f.op.bit = h.getLsbD 18 ∧ f.kmPresent = h.getLsbD 17 ∧ f.dinPresent = h.getLsbD 16 ∧
    f.kmLen.toNat = h.toNat / 2 ^ 8 % 2 ^ 8 ∧ f.dinLen.toNat = h.toNat % 2 ^ 8 ∧
    h.toNat = f.op.bit.toNat * 2 ^ 18 + f.kmPresent.toNat * 2 ^ 17 + f.dinPresent.toNat * 2 ^ 16 + f.kmLen.toNat * 2 ^ 8 +
      f.dinLen.toNat) ∧
  (decode 0x3C040).header = ⟨.encrypt, true, true, 192#8, 64#8⟩ ∧ (decode 0x38040).header = ⟨.encrypt, true, true, 128#8, 64#8⟩ ∧
  (decode 0x7C040).header = ⟨.decrypt, true, true, 192#8, 64#8⟩ ∧ (decode 0x78040).header = ⟨.decrypt, true, true, 128#8, 64#8⟩

/-- R62: every header acts as one of the two operations, by `HDR[18]` alone; the two-key and three-key forms are no opcodes of their
own. -/
def Obligations.OpcodeByBit18 : Prop :=
  ∀ (h : HeaderWord) (s : State),
    (h.getLsbD 18 = false → exec (decode h) s =
      exec (.encrypt (h.getLsbD 17) (h.getLsbD 16) (h.extractLsb' 8 8) (h.extractLsb' 0 8)) s) ∧
    (h.getLsbD 18 = true → exec (decode h) s =
      exec (.decrypt (h.getLsbD 17) (h.getLsbD 16) (h.extractLsb' 8 8) (h.extractLsb' 0 8)) s)

/-- R54, R76, R77 and vectors VX7, VX18, VX20, VX21, VX23 of 95_test_vectors.md: headers written out from the spec decode to what they
stand for (a sanity statement). That the first four decode to the table's alias rows is the model's choice of spelling (log 7). -/
def Obligations.SampleHeadersDecode : Prop :=
  decode 0x3C040 = .encrypt3K ∧ decode 0x38040 = .encrypt2K ∧ decode 0x7C040 = .decrypt3K ∧ decode 0x78040 = .decrypt2K ∧
  decode 0x1C040 = .encrypt false true 192#8 64#8 ∧ decode 0x2C040 = .encrypt true false 192#8 64#8 ∧
  decode 0x37F40 = .encrypt true true 127#8 64#8 ∧ decode 0x6803F = .decrypt true false 128#8 63#8 ∧
  decode 0x46F3F = .decrypt false false 111#8 63#8 ∧ decode 0x7C0FF = .decrypt true true 192#8 255#8 ∧
  decode 0 = .encrypt false false 0#8 0#8

/-- R62: the opcode table's alias rows act as the operation with their operand values. -/
def Obligations.AliasRowsActAsTheOperation : Prop :=
  ∀ s : State,
    exec .encrypt2K s = exec (.encrypt true true 128#8 64#8) s ∧ exec .encrypt3K s = exec (.encrypt true true 192#8 64#8) s ∧
    exec .decrypt2K s = exec (.decrypt true true 128#8 64#8) s ∧ exec .decrypt3K s = exec (.decrypt true true 192#8 64#8) s

/-! ## The step -/

/-- R14, R24, R62: when the host presents a request and no reset, a step is the execution of the decoded header, after which the host's
wires move on. -/
def Obligations.StepExecutesTheDecodedHeader : Prop :=
  ∀ (s : State) (i : Instr), s.host.reset = false → s.host.req = true → decode s.host.hdr = i →
    step s = match exec i s with
      | .next t => .next { t with host := nextWires t, hostNext := t.hostNext.tail }
      | .fault r => .fault r
      | .refused r => .refused r

/-- R20, R24, R101 (one step of R24 at a time, no reset): `STEP` moves only as R20's table says. -/
def Obligations.SequencerFollowsItsTable : Prop :=
  ∀ s : State, s.grain = .micro → s.host.reset = false → s.step.toNat ≤ 5 →
    ∃ t, step s = .next t ∧
      ((s.step = 0#3 ∨ s.step = 5#3) → t.step = if s.host.req then 1#3 else s.step) ∧
      (s.step = 1#3 → (ValidOperands s.kmPresent s.dinPresent s.kmLen s.dinLen → t.step = 2#3) ∧
        (¬ ValidOperands s.kmPresent s.dinPresent s.kmLen s.dinLen → t.step = 5#3)) ∧
      ((s.step = 2#3 ∨ s.step = 3#3 ∨ s.step = 4#3) →
        (s.pend = none → t.step = s.step) ∧
        (s.pend ≠ none → (s.core.now = .ok → t.step.toNat = s.step.toNat + 1) ∧ (s.core.now = .fail → t.step = 5#3) ∧
          (s.core.now = .silent → t.step = s.step)))

/-- R21: `STEP` 6 and 7 have no step: a request and the block's own step stop there (a reset does not: ResetGivesTheSixValues). And no
step writes them: reset does not leave them, and no step leads to them from another value. -/
def Obligations.UnnamedStepsAreStuck : Prop :=
  (∀ s : State, s.step = 6#3 ∨ s.step = 7#3 →
    (∀ i, exec i s = .fault .stuckStep) ∧ (s.host.reset = false → step s = .fault .stuckStep)) ∧
  State.reset.step.toNat ≤ 5 ∧
  (∀ s t : State, s.step.toNat ≤ 5 → step s = .next t → t.step.toNat ≤ 5)

/-- R13, R14, R17, R22, R23 (one step of R24 at a time, no reset): each register changes only in the steps that R13's table lets write
it. -/
def Obligations.OnlyTheNamedStepsWrite : Prop :=
  ∀ s t : State, s.grain = .micro → s.host.reset = false → step s = .next t →
    (¬ ((s.step = 0#3 ∨ s.step = 5#3) ∧ s.host.req = true) →
      t.op = s.op ∧ t.kmPresent = s.kmPresent ∧ t.dinPresent = s.dinPresent ∧ t.kmLen = s.kmLen ∧ t.dinLen = s.dinLen ∧
      t.km = s.km ∧ t.din = s.din) ∧
    (s.step ≠ 1#3 → t.k1 = s.k1 ∧ t.k2 = s.k2 ∧ t.k3 = s.k3 ∧ t.mode = s.mode) ∧
    (¬ (s.step = 1#3 ∨ s.step = 2#3 ∨ s.step = 3#3 ∨ s.step = 4#3) → t.t = s.t) ∧
    (¬ (t.step = 5#3 ∧ s.step ≠ 5#3) → t.status = s.status ∧ t.cause = s.cause) ∧
    (s.step ≠ 4#3 → t.dout = s.dout) ∧
    (¬ (t.step = 5#3 ∧ s.step ≠ 5#3) → ¬ ((s.step = 0#3 ∨ s.step = 5#3) ∧ s.host.req = true) → t.doutValid = s.doutValid) ∧
    (¬ (s.step = 2#3 ∨ s.step = 3#3 ∨ s.step = 4#3) → ¬ ((s.step = 0#3 ∨ s.step = 5#3) ∧ s.host.req = true) →
      t.pend = s.pend ∧ t.trace = s.trace) ∧
    (t.grain = s.grain ∧ t.resets = s.resets)

/-! ## Accept, CHECK, CALL: one step of R24 at a time -/

/-- R14: the accept step latches the whole request and starts; after it the block's own steps read nothing from the host. -/
def Obligations.AcceptLatchesTheRequest : Prop :=
  (∀ (i : Instr) (s : State), s.grain = .micro → s.step = 0#3 ∨ s.step = 5#3 →
    exec i s = .next { s with
      op := i.header.op, kmPresent := i.header.kmPresent, dinPresent := i.header.dinPresent, kmLen := i.header.kmLen,
      dinLen := i.header.dinLen, km := s.host.km, din := s.host.din,
      step := 1#3, doutValid := false, trace := [], pend := none }) ∧
  (∀ h : HeaderWord,
    (decode h).header = ⟨if h.getLsbD 18 then .decrypt else .encrypt, h.getLsbD 17, h.getLsbD 16, h.extractLsb' 8 8, h.extractLsb' 0 8⟩) ∧
  (∀ (s : State) (w : HostWires), tick desCore { s with host := w } = { tick desCore s with host := w })

/-- R75 to R79, R123: in the CHECK step the first check that fails, in the order of R75, ends the operation with its cause, and nothing
else is written. -/
def Obligations.FirstFailingCheckRejects : Prop :=
  ∀ s : State, s.grain = .micro → s.host.reset = false → s.step = 1#3 →
    ∀ cause : BitVec 3,
      (cause = if s.kmPresent = false then 1#3 else if ¬ (s.kmLen = 128#8 ∨ s.kmLen = 192#8) then 2#3
        else if s.dinPresent = false then 3#3 else if s.dinLen ≠ 64#8 then 4#3 else 0#3) →
      cause ≠ 0#3 →
      step s = .next { s with
        status := 1#2, cause := cause, doutValid := false, step := 5#3, host := nextWires s, hostNext := s.hostNext.tail }

/-- R80, R81, R82, R83, R84, R88: KEYSPLIT, bit by bit, and nothing else is written. -/
def Obligations.KeySplitMovesTheWindows : Prop :=
  ∀ s : State, s.grain = .micro → s.host.reset = false → s.step = 1#3 →
    ValidOperands s.kmPresent s.dinPresent s.kmLen s.dinLen →
    ∃ k1 k2 k3 : Block,
      (∀ i, i < 64 → k1.getMsbD i = s.km.getMsbD i ∧ k2.getMsbD i = s.km.getMsbD (64 + i) ∧
        k3.getMsbD i = if s.kmLen = 192#8 then s.km.getMsbD (128 + i) else s.km.getMsbD i) ∧
      step s = .next { s with
        k1 := k1, k2 := k2, k3 := k3, mode := if s.kmLen = 192#8 then .threeKey else .twoKey, t := s.din, step := 2#3,
        host := nextWires s, hostNext := s.hostNext.tail }

/-- R99, R100, R102, R125: issue of call n with the direction and key of R100's closed form; its `ok` answer, which ends in the next call
or in completion; its `fail` answer. That completion leaves `KM` and `K[1..3]` as they are is the model's reading (log 13). -/
def Obligations.CallIssuesAndTakesItsAnswer : Prop :=
  ∀ s : State, s.grain = .micro → s.host.reset = false → ∀ n : Nat, 1 ≤ n → n ≤ 3 → s.step.toNat = n + 1 →
    (s.pend = none → ∃ (d : Dir) (j : KeyIx),
      d.bit = (s.op.bit ^^ decide (n = 2)) ∧ j.index = (if s.op = .encrypt then n else 4 - n) ∧
      step s = .next { s with
        pend := some ⟨d, match j with | .k1 => s.k1 | .k2 => s.k2 | .k3 => s.k3, s.t⟩,
        host := nextWires s, hostNext := s.hostNext.tail }) ∧
    (∀ (d : Dir) (k x : Block), s.pend = some ⟨d, k, x⟩ →
      let r := if d = .encrypt then desE k x else desD k x
      let answered : State := { s with
        trace := s.trace ++ [⟨d, k, x, r⟩], t := r, pend := none, core := s.core.advance,
        host := nextWires s, hostNext := s.hostNext.tail }
      (s.core.now = .ok → n < 3 → step s = .next { answered with step := BitVec.ofNat 3 (n + 2) }) ∧
      (s.core.now = .ok → n = 3 →
        step s = .next { answered with dout := r, status := 0#2, cause := 0#3, doutValid := true, step := 5#3 }) ∧
      (s.core.now = .fail → step s = .next { s with
        pend := none, status := 2#2, cause := 5#3, doutValid := false, step := 5#3, core := s.core.advance,
        host := nextWires s, hostNext := s.hostNext.tail }))

/-! ## Whole operations -/

/-- R97 (with R102, R123, R125): `ENCRYPT` from accept to `DONE`: the result and everything it writes, on valid operands; on invalid ones
the rejection; when call n + 1 is answered `fail`, the abort. Nothing else changes; that a success too leaves `KM`, `K[1..3]` and `T` as
they are is the model's reading (log 13). -/
def Obligations.EncryptOperation : Prop :=
  ∀ (s : State) (kp dp : Bool) (kl dl : LenField),
    s.grain = .operation → s.step = 0#3 ∨ s.step = 5#3 →
    let f : Header := ⟨.encrypt, kp, dp, kl, dl⟩
    let key := keyOf kl s.host.km
    (ValidOperands kp dp kl dl → nextAnswers 3 s.core = [.ok, .ok, .ok] →
      exec (.encrypt kp dp kl dl) s = .next (completed desCore f s) ∧
      (completed desCore f s).dout = desE (key .k3) (desD (key .k2) (desE (key .k1) s.host.din))) ∧
    (∀ cause, Reports kp dp kl dl cause → exec (.encrypt kp dp kl dl) s = .next (rejected cause f s)) ∧
    (∀ n, n < 3 → ValidOperands kp dp kl dl → nextAnswers (n + 1) s.core = List.replicate n .ok ++ [.fail] →
      exec (.encrypt kp dp kl dl) s = .next (aborted desCore f n s))

/-- R98 (with R102, R123, R125): `DECRYPT` from accept to `DONE`, as for `ENCRYPT`; also as to log 13. -/
def Obligations.DecryptOperation : Prop :=
  ∀ (s : State) (kp dp : Bool) (kl dl : LenField),
    s.grain = .operation → s.step = 0#3 ∨ s.step = 5#3 →
    let f : Header := ⟨.decrypt, kp, dp, kl, dl⟩
    let key := keyOf kl s.host.km
    (ValidOperands kp dp kl dl → nextAnswers 3 s.core = [.ok, .ok, .ok] →
      exec (.decrypt kp dp kl dl) s = .next (completed desCore f s) ∧
      (completed desCore f s).dout = desD (key .k1) (desE (key .k2) (desD (key .k3) s.host.din))) ∧
    (∀ cause, Reports kp dp kl dl cause → exec (.decrypt kp dp kl dl) s = .next (rejected cause f s)) ∧
    (∀ n, n < 3 → ValidOperands kp dp kl dl → nextAnswers (n + 1) s.core = List.replicate n .ok ++ [.fail] →
      exec (.decrypt kp dp kl dl) s = .next (aborted desCore f n s))

/-- R97, R98: what the host and an observer of the `DES_CORE` port see of an operation from accept to `DONE`: the result and the three
calls on valid operands, the rejection on invalid ones, the abort at a failing call. Nothing here rests on what the key registers hold
afterwards (log 13). -/
def Obligations.OperationsAsSeenAtThePorts : Prop :=
  ∀ (i : Instr) (s : State), s.grain = .operation → s.step = 0#3 ∨ s.step = 5#3 →
    let f := i.header
    let key := keyOf f.kmLen s.host.km
    let x := s.host.din
    (ValidOperands f.kmPresent f.dinPresent f.kmLen f.dinLen → nextAnswers 3 s.core = [.ok, .ok, .ok] →
      ∃ t, exec i s = .next t ∧ t.step = 5#3 ∧ t.status = 0#2 ∧ t.cause = 0#3 ∧ t.doutValid = true ∧ t.pend = none ∧
        t.trace = callsOf desCore f.op key x ∧
        (f.op = .encrypt → t.dout = desE (key .k3) (desD (key .k2) (desE (key .k1) x))) ∧
        (f.op = .decrypt → t.dout = desD (key .k1) (desE (key .k2) (desD (key .k3) x)))) ∧
    (∀ cause, Reports f.kmPresent f.dinPresent f.kmLen f.dinLen cause →
      ∃ t, exec i s = .next t ∧ t.step = 5#3 ∧ t.status = 1#2 ∧ t.cause = cause ∧ t.doutValid = false ∧ t.pend = none ∧ t.trace = []) ∧
    (∀ n, n < 3 → ValidOperands f.kmPresent f.dinPresent f.kmLen f.dinLen →
      nextAnswers (n + 1) s.core = List.replicate n .ok ++ [.fail] →
      ∃ t, exec i s = .next t ∧ t.step = 5#3 ∧ t.status = 2#2 ∧ t.cause = 5#3 ∧ t.doutValid = false ∧ t.pend = none ∧
        t.trace = (callsOf desCore f.op key x).take n)

/-- R62, R82, R83, R97, R98: the four alias rows complete with the result of their operation. -/
def Obligations.FourFormsComplete : Prop :=
  ∀ s : State, s.grain = .operation → s.step = 0#3 ∨ s.step = 5#3 → nextAnswers 3 s.core = [.ok, .ok, .ok] →
    let a := s.host.km.extractLsb' 128 64
    let b := s.host.km.extractLsb' 64 64
    let c := s.host.km.extractLsb' 0 64
    let x := s.host.din
    (∃ t, exec .encrypt2K s = .next t ∧ t = completed desCore ⟨.encrypt, true, true, 128#8, 64#8⟩ s ∧
      t.dout = desE a (desD b (desE a x))) ∧
    (∃ t, exec .encrypt3K s = .next t ∧ t = completed desCore ⟨.encrypt, true, true, 192#8, 64#8⟩ s ∧
      t.dout = desE c (desD b (desE a x))) ∧
    (∃ t, exec .decrypt2K s = .next t ∧ t = completed desCore ⟨.decrypt, true, true, 128#8, 64#8⟩ s ∧
      t.dout = desD a (desE b (desD a x))) ∧
    (∃ t, exec .decrypt3K s = .next t ∧ t = completed desCore ⟨.decrypt, true, true, 192#8, 64#8⟩ s ∧
      t.dout = desD a (desE b (desD c x)))

/-- R97 to R102, R145: for ANY pair of functions at the port, a valid request makes the same three calls in the same order, and its
result is theirs. -/
def Obligations.CallOrderForAnyCore : Prop :=
  ∀ (c : DesCore) (f : Header) (s : State), s.grain = .operation → s.step = 0#3 ∨ s.step = 5#3 →
    ValidOperands f.kmPresent f.dinPresent f.kmLen f.dinLen → nextAnswers 3 s.core = [.ok, .ok, .ok] →
    request c f s = .next (completed c f s)

/-- R99, R152: when `DES_CORE` answers n calls and is then silent, a valid request stops with call n + 1 pending, busy. -/
def Obligations.OperationWaitsForASilentCore : Prop :=
  ∀ (i : Instr) (s : State) (n : Nat), s.grain = .operation → s.step = 0#3 ∨ s.step = 5#3 → n < 3 →
    ValidOperands i.header.kmPresent i.header.dinPresent i.header.kmLen i.header.dinLen →
    nextAnswers (n + 1) s.core = List.replicate n .ok ++ [.silent] →
    exec i s = .next (waiting desCore i.header n s) ∧ busy (waiting desCore i.header n s) = true ∧
    (waiting desCore i.header n s).pend ≠ none

/-- R99, R102, R125, R152 (an operation in one step, log 6; `DES_CORE` as a list, log 5): a waiting operation is resumed by a later
step, whatever the host then drives but reset. `q` = 1: the call is polled once more in vain first. The remaining calls are answered
and the operation completes; call m + 1 fails and it aborts; or it waits again. -/
def Obligations.WaitingOperationResumes : Prop :=
  ∀ (f : Header) (s : State) (n q : Nat) (c : CoreScript) (w : HostWires) (ws : List HostWires),
    s.grain = .operation → n < 3 → q ≤ 1 → w.reset = false →
    let u : State := { waiting desCore f n s with core := c, host := w, hostNext := ws }
    (nextAnswers (q + (3 - n)) c = List.replicate q .silent ++ List.replicate (3 - n) .ok →
      step u = .next { completed desCore f s with core := afterPolls (q + (3 - n)) c, host := nextWires u, hostNext := ws.tail }) ∧
    (∀ m, n ≤ m → m < 3 →
      nextAnswers (q + (m - n) + 1) c = List.replicate q .silent ++ List.replicate (m - n) .ok ++ [.fail] →
      step u = .next { aborted desCore f m s with
        core := afterPolls (q + (m - n) + 1) c, host := nextWires u, hostNext := ws.tail }) ∧
    (∀ m, n ≤ m → m < 3 → 0 < q + (m - n) →
      nextAnswers (q + (m - n) + 1) c = List.replicate q .silent ++ List.replicate (m - n) .ok ++ [.silent] →
      step u = .next { waiting desCore f m s with
        core := afterPolls (q + (m - n)) c, host := nextWires u, hostNext := ws.tail })

/-- R24: the fused model and the stepped model agree (that the model has both is log 6): every fused step, be it a reset, an accepted
request, the block at rest, or an operation going on, is at most eight single steps, in every register. The host is quiet in the single
steps after the first, then drives what it drives after the fused step. -/
def Obligations.FusedStepIsSomeStepsOfTheBlock : Prop :=
  ∀ s : State, s.grain = .operation → s.host.reset = true ∨ s.step.toNat ≤ 5 →
    ∃ (k : Nat) (t : State), k < 8 ∧ step s = .next t ∧
      Host.Core.run core (k + 1)
        { s with
          grain := .micro
          hostNext := List.replicate k { s.host with reset := false, req := false } ++ s.hostNext } =
        .next { t with grain := .micro }

/-! ## Reset, busy protocol, response -/

/-- R27, R141: the values after reset, at power-on and after a reset step from any state at all. That the step is the reset also when a
request is presented beside it is the model's order (log 8). -/
def Obligations.ResetGivesTheSixValues : Prop :=
  (State.reset.step = 0#3 ∧ State.reset.status = 0#2 ∧ State.reset.cause = 0#3 ∧ State.reset.doutValid = false ∧
    State.reset.pend = none ∧ State.reset.trace = []) ∧
  (∀ s : State, s.host.reset = true →
    ∃ t, step s = .next t ∧ t.step = 0#3 ∧ t.status = 0#2 ∧ t.cause = 0#3 ∧ t.doutValid = false ∧ t.pend = none ∧ t.trace = [] ∧
      t.core = s.core ∧ t.grain = s.grain ∧ t.host = nextWires s ∧ t.hostNext = s.hostNext.tail)

/-- R143: a reset abandons the operation in progress: as long as the host then presents no request, `DONE` never rises, no call is
pending or made. That the first step is the reset also when a request is presented beside it is the model's order (log 8). -/
def Obligations.ResetAbandonsTheOperation : Prop :=
  ∀ (s : State) (n : Nat), s.host.reset = true → (∀ w ∈ s.hostNext, w.req = false) →
    ∃ t, Host.Core.run core (n + 1) s = .next t ∧ t.step = 0#3 ∧ (response t).done = false ∧ (response t).busy = false ∧
      t.pend = none ∧ t.trace = []

/-- R147: a request is accepted in `IDLE` and `DONE`, discarding the response; presented to a busy block it has no effect and is not
queued. -/
def Obligations.BusyBlockIgnoresRequests : Prop :=
  (∀ s : State, s.grain = .micro → s.host.reset = false → s.host.req = true → s.step = 0#3 ∨ s.step = 5#3 →
    ∃ t, step s = .next t ∧ t.step = 1#3 ∧ t.doutValid = false) ∧
  (∀ (s : State) (w w' : HostWires), (s.step = 1#3 ∨ s.step = 2#3 ∨ s.step = 3#3 ∨ s.step = 4#3) → w.reset = false →
    w'.reset = false →
    (∀ i j, exec i s = exec j s) ∧
    ∃ t, step { s with host := w } = .next t ∧
      step { s with host := w' } = .next { t with host := nextWires { s with host := w' } })

/-- R149: the response does not change from `DONE` until the next accept or reset, for any number of steps; while the block is busy,
`DOUT_VALID` is 0. -/
def Obligations.ResponseIsStable : Prop :=
  (∀ (s : State) (n : Nat), s.step = 5#3 → Quiet s.host → (∀ w ∈ s.hostNext, Quiet w) →
    ∃ t, Host.Core.run core n s = .next t ∧ t.step = 5#3 ∧ t.status = s.status ∧ t.cause = s.cause ∧
      t.doutValid = s.doutValid ∧ t.dout = s.dout) ∧
  (∀ s : State, Invariant s → busy s = true → s.doutValid = false)

/-- R60: what the response says, and when its parts have a meaning. -/
def Obligations.ResponseFields : Prop :=
  (∀ s : State,
    ((response s).busy = true ↔ 1 ≤ s.step.toNat ∧ s.step.toNat ≤ 4) ∧ ((response s).done = true ↔ s.step = 5#3) ∧
    (response s).doutValid = s.doutValid ∧
    (s.step = 5#3 → (response s).status = some s.status ∧ (response s).cause = some s.cause) ∧
    (s.doutValid = true → (response s).dout = some s.dout)) ∧
  (response State.reset).busy = false ∧ (response State.reset).done = false

/-- R152: if `DES_CORE` never answers, `PEND` stays full, `BUSY` stays 1 and nothing in the block changes, for any number of steps
without reset. -/
def Obligations.SilentCoreHangsTheBlock : Prop :=
  ∀ (s : State) (n : Nat), (s.step = 2#3 ∨ s.step = 3#3 ∨ s.step = 4#3) → s.pend ≠ none → s.core = ⟨[], .silent⟩ →
    s.host.reset = false → (∀ w ∈ s.hostNext, w.reset = false) →
    ∃ t, Host.Core.run core n s = .next t ∧ t = { s with host := t.host, hostNext := t.hostNext } ∧
      (response t).busy = true ∧ t.pend ≠ none

/-! ## Invariants -/

/-- R22: `STATUS` and `CAUSE` are a legal pair after every step from a state where they are one. -/
def Obligations.StatusAndCauseStayLegal : Prop :=
  ∀ s t : State, LegalPair s.status s.cause → step s = .next t → LegalPair t.status t.cause

/-- R23: that `DOUT_VALID` = 1 exactly when `STEP` = 5 and `STATUS` = OK is kept by every step. -/
def Obligations.DoutValidExactlyWhenOk : Prop :=
  ∀ s t : State, (s.doutValid = true ↔ (s.step = 5#3 ∧ s.status = 0#2)) → step s = .next t →
    (t.doutValid = true ↔ (t.step = 5#3 ∧ t.status = 0#2))

/-- R27: the reset state has the invariant. -/
def Obligations.InvariantAtReset : Prop :=
  Invariant State.reset

/-- R13 to R25, R97 to R102, R123, R125: every step keeps the invariant. -/
def Obligations.EveryStepKeepsTheInvariant : Prop :=
  ∀ s t : State, Invariant s → step s = .next t → Invariant t

/-- R21, R24, R28, R152: from every state with the invariant a step goes on, to a state with the invariant, at either grain. -/
def Obligations.InvariantStatesNeverStop : Prop :=
  ∀ s : State, Invariant s → SafeOutcome (step s)

/-- R21, R28: from reset (the state of log 1), whatever the host presents, whatever `DES_CORE` does and at either grain, no run stops,
and every state of it has the invariant. -/
def Obligations.NoRunFromResetStops : Prop :=
  ∀ (n : Nat) (host : HostWires) (hostNext : List HostWires) (script : CoreScript) (grain : Grain),
    SafeOutcome (Host.Core.run core n { State.reset with host := host, hostNext := hostNext, core := script, grain := grain })

/-! ## The primitive and the collaborator -/

/-- R42: `Zero`, `CopyBits` and the window read, bit by bit. -/
def Obligations.CopyBitsCopiesItsRange : Prop :=
  (∀ n i : Nat, (zeroSeq n).getMsbD i = false) ∧
  (∀ (dl sl : Nat) (dst : BitVec dl) (dstOff : Nat) (src : BitVec sl) (srcStart n : Nat) (hs : srcStart + n ≤ sl)
    (hd : dstOff + n ≤ dl),
    (∀ i, i < n → (copyBits dst dstOff src srcStart n hs hd).getMsbD (dstOff + i) = src.getMsbD (srcStart + i)) ∧
    (∀ j, j < dl → ¬ (dstOff ≤ j ∧ j < dstOff + n) →
      (copyBits dst dstOff src srcStart n hs hd).getMsbD j = dst.getMsbD j)) ∧
  (∀ (km : KeyBus) (a : Nat) (h : a + 64 ≤ 192) (i : Nat), i < 64 → (window km a h).getMsbD i = km.getMsbD (a + i))

/-- R94: the inverse law, in both forms. -/
def Obligations.DecryptUndoesEncrypt : Prop :=
  ∀ k x : Block, desD k (desE k x) = x ∧ desE k (desD k x) = x

/-- R95: the parity positions 7, 15, ..., 63 of a key are ignored. -/
def Obligations.ParityPositionsAreIgnored : Prop :=
  ∀ k k' x : Block, (∀ i, i < 64 → i % 8 ≠ 7 → k.getMsbD i = k'.getMsbD i) → desE k x = desE k' x ∧ desD k x = desD k' x

/-! ## Laws of the operations -/

/-- R103: the round trip, in both directions: the host feeds `DOUT` back as the data block, with the same key material. -/
def Obligations.RoundTrip : Prop :=
  ∀ (s : State) (kl : LenField), s.grain = .operation → s.step = 0#3 ∨ s.step = 5#3 → kl = 128#8 ∨ kl = 192#8 →
    nextAnswers 6 s.core = List.replicate 6 .ok →
    (∃ t v, exec (.encrypt true true kl 64#8) s = .next t ∧ exec (.decrypt true true kl 64#8) (withDin t t.dout) = .next v ∧
      v.status = 0#2 ∧ v.doutValid = true ∧ v.dout = s.host.din) ∧
    (∃ t v, exec (.decrypt true true kl 64#8) s = .next t ∧ exec (.encrypt true true kl 64#8) (withDin t t.dout) = .next v ∧
      v.status = 0#2 ∧ v.doutValid = true ∧ v.dout = s.host.din)

/-- R104: two-key material `A ‖ B`, whatever the filler, acts as three-key material `A ‖ B ‖ A`: the two end in states that differ in
`KM`, `KM_LEN`, `MODE` and the bus alone; whatever `DES_CORE` does. That `KM` is still there to differ in after a success is log 13. -/
def Obligations.TwoKeyAliasing : Prop :=
  ∀ (s : State) (A B filler : Block), s.grain = .operation → s.step = 0#3 ∨ s.step = 5#3 →
    let two := withKm s (A ++ B ++ filler)
    let three := withKm s (A ++ B ++ A)
    (∃ t, exec (.encrypt true true 128#8 64#8) two = .next t ∧ exec (.encrypt true true 192#8 64#8) three =
      .next { t with km := A ++ B ++ A, kmLen := 192#8, mode := .threeKey, host := three.host }) ∧
    (∃ t, exec (.decrypt true true 128#8 64#8) two = .next t ∧ exec (.decrypt true true 192#8 64#8) three =
      .next { t with km := A ++ B ++ A, kmLen := 192#8, mode := .threeKey, host := three.host })

/-- R105: equal neighbouring sub-keys collapse (equal outside the parity positions is enough): with `K1 = K2` the operation is single
DES with `K3`, with `K2 = K3` it is single DES with `K1`; so with all three equal it is single DES. The trace still has three calls. -/
def Obligations.EqualSubKeysCollapse : Prop :=
  ∀ (s : State) (kl : LenField), s.grain = .operation → s.step = 0#3 ∨ s.step = 5#3 → kl = 128#8 ∨ kl = 192#8 →
    nextAnswers 3 s.core = [.ok, .ok, .ok] →
    let key := keyOf kl s.host.km
    ∃ t u, exec (.encrypt true true kl 64#8) s = .next t ∧ exec (.decrypt true true kl 64#8) s = .next u ∧
      t.trace.length = 3 ∧ u.trace.length = 3 ∧
      (AgreeOffParity (key .k1) (key .k2) → t.dout = desE (key .k3) s.host.din ∧ u.dout = desD (key .k3) s.host.din) ∧
      (AgreeOffParity (key .k2) (key .k3) → t.dout = desE (key .k1) s.host.din ∧ u.dout = desD (key .k1) s.host.din)

/-- R25, R106: nothing crosses from one operation to the next: from any two states that can accept, the same request and the same
behaviour of `DES_CORE` give the same response, trace and latch. -/
def Obligations.NoStateCrossesOperations : Prop :=
  ∀ (i : Instr) (s s' : State), s.grain = .operation → s'.grain = .operation → s.step = 0#3 ∨ s.step = 5#3 →
    s'.step = 0#3 ∨ s'.step = 5#3 → s.host.km = s'.host.km → s.host.din = s'.host.din → s.core = s'.core →
    ∃ t t', exec i s = .next t ∧ exec i s' = .next t' ∧ response t = response t' ∧ t.step = t'.step ∧ t.trace = t'.trace ∧
      t.pend = t'.pend ∧ t.core = t'.core

/-- R107: `STATUS`, `CAUSE` and `DOUT` do not depend on the bits of `KM` at parity positions; for every request and whatever `DES_CORE`
does. -/
def Obligations.ParityOfKeyMaterialDoesNotMatter : Prop :=
  ∀ (i : Instr) (s : State) (km : KeyBus), s.grain = .operation → s.step = 0#3 ∨ s.step = 5#3 → AgreeOffParity s.host.km km →
    ∃ t u, exec i s = .next t ∧ exec i (withKm s km) = .next u ∧ t.status = u.status ∧ t.cause = u.cause ∧ t.dout = u.dout ∧
      t.doutValid = u.doutValid ∧ t.step = u.step

/-- R108: nothing depends on `KM[128..192)` of a two-key request, nor on any bit of `KM` or `DIN` of a rejected request: the end states
differ in the latched bus bits alone (that `KM` still holds them after a success is log 13). -/
def Obligations.UnreadBitsDoNotMatter : Prop :=
  ∀ (i : Instr) (s : State), s.grain = .operation → s.step = 0#3 ∨ s.step = 5#3 →
    (∀ km : KeyBus, i.header.kmLen = 128#8 → (∀ j, j < 128 → s.host.km.getMsbD j = km.getMsbD j) →
      ∃ t, exec i s = .next t ∧ exec i (withKm s km) = .next { t with km := km, host := (withKm s km).host }) ∧
    (∀ (km : KeyBus) (din : Block) (cause : BitVec 3),
      Reports i.header.kmPresent i.header.dinPresent i.header.kmLen i.header.dinLen cause →
      ∃ t, exec i s = .next t ∧ exec i (withDin (withKm s km) din) =
        .next { t with km := km, din := din, host := (withDin (withKm s km) din).host })

/-- R109: a request that passes the checks makes exactly three calls, with R100's directions and keys, each call's block being the
result before it; a rejected one makes none; and the `DECRYPT` trace of a ciphertext is the `ENCRYPT` trace reversed, with directions
flipped and `BLK`, `RES` exchanged. -/
def Obligations.TraceShape : Prop :=
  (∀ (i : Instr) (s : State), s.grain = .operation → s.step = 0#3 ∨ s.step = 5#3 →
    nextAnswers 3 s.core = [.ok, .ok, .ok] →
    ValidOperands i.header.kmPresent i.header.dinPresent i.header.kmLen i.header.dinLen →
    let key := keyOf i.header.kmLen s.host.km
    ∃ (t : State) (a b c : CallRecord), exec i s = .next t ∧ t.trace = [a, b, c] ∧
      a.blk = s.host.din ∧ b.blk = a.res ∧ c.blk = b.res ∧
      (if i.header.op = .encrypt
        then a.dir = .encrypt ∧ a.key = key .k1 ∧ b.dir = .decrypt ∧ b.key = key .k2 ∧ c.dir = .encrypt ∧ c.key = key .k3
        else a.dir = .decrypt ∧ a.key = key .k3 ∧ b.dir = .encrypt ∧ b.key = key .k2 ∧ c.dir = .decrypt ∧
          c.key = key .k1)) ∧
  (∀ (i : Instr) (s : State) (cause : BitVec 3), s.grain = .operation → s.step = 0#3 ∨ s.step = 5#3 →
    Reports i.header.kmPresent i.header.dinPresent i.header.kmLen i.header.dinLen cause →
    ∃ t, exec i s = .next t ∧ t.trace = []) ∧
  (∀ (s : State) (kl : LenField), s.grain = .operation → s.step = 0#3 ∨ s.step = 5#3 → kl = 128#8 ∨ kl = 192#8 →
    nextAnswers 6 s.core = List.replicate 6 .ok →
    ∃ t v, exec (.encrypt true true kl 64#8) s = .next t ∧ exec (.decrypt true true kl 64#8) (withDin t t.dout) = .next v ∧
      v.trace = (t.trace.map flipCall).reverse)
end

