-- ==== Sys2Proof/Laws/State.lean ====
section
/-! SUPPORT. One lemma per field per state update, true by definition, so that no proof unfolds a record update. -/

namespace Sys2Proof.Machine

/-! `accept` writes the latch, `STEP`, `DOUT_VALID`, `TRACE`, `PEND` (R14). -/

section
variable (f : Header) (s : State)
@[simp] theorem accept_op : (accept f s).op = f.op := rfl
@[simp] theorem accept_kmPresent : (accept f s).kmPresent = f.kmPresent := rfl
@[simp] theorem accept_dinPresent : (accept f s).dinPresent = f.dinPresent := rfl
@[simp] theorem accept_kmLen : (accept f s).kmLen = f.kmLen := rfl
@[simp] theorem accept_dinLen : (accept f s).dinLen = f.dinLen := rfl
@[simp] theorem accept_km : (accept f s).km = s.host.km := rfl
@[simp] theorem accept_din : (accept f s).din = s.host.din := rfl
@[simp] theorem accept_k1 : (accept f s).k1 = s.k1 := rfl
@[simp] theorem accept_k2 : (accept f s).k2 = s.k2 := rfl
@[simp] theorem accept_k3 : (accept f s).k3 = s.k3 := rfl
@[simp] theorem accept_mode : (accept f s).mode = s.mode := rfl
@[simp] theorem accept_t : (accept f s).t = s.t := rfl
@[simp] theorem accept_step : (accept f s).step = 1#3 := rfl
@[simp] theorem accept_status : (accept f s).status = s.status := rfl
@[simp] theorem accept_cause : (accept f s).cause = s.cause := rfl
@[simp] theorem accept_dout : (accept f s).dout = s.dout := rfl
@[simp] theorem accept_doutValid : (accept f s).doutValid = false := rfl
@[simp] theorem accept_pend : (accept f s).pend = none := rfl
@[simp] theorem accept_trace : (accept f s).trace = [] := rfl
@[simp] theorem accept_host : (accept f s).host = s.host := rfl
@[simp] theorem accept_hostNext : (accept f s).hostNext = s.hostNext := rfl
@[simp] theorem accept_core : (accept f s).core = s.core := rfl
@[simp] theorem accept_grain : (accept f s).grain = s.grain := rfl
@[simp] theorem accept_resets : (accept f s).resets = s.resets := rfl
end

/-! `raiseContractViolation` writes `STATUS`, `CAUSE`, `DOUT_VALID`, `STEP` (R123). -/

section
variable (c : BitVec 3) (s : State)
@[simp] theorem raiseContractViolation_op : (raiseContractViolation c s).op = s.op := rfl
@[simp] theorem raiseContractViolation_kmPresent : (raiseContractViolation c s).kmPresent = s.kmPresent := rfl
@[simp] theorem raiseContractViolation_dinPresent : (raiseContractViolation c s).dinPresent = s.dinPresent := rfl
@[simp] theorem raiseContractViolation_kmLen : (raiseContractViolation c s).kmLen = s.kmLen := rfl
@[simp] theorem raiseContractViolation_dinLen : (raiseContractViolation c s).dinLen = s.dinLen := rfl
@[simp] theorem raiseContractViolation_km : (raiseContractViolation c s).km = s.km := rfl
@[simp] theorem raiseContractViolation_din : (raiseContractViolation c s).din = s.din := rfl
@[simp] theorem raiseContractViolation_k1 : (raiseContractViolation c s).k1 = s.k1 := rfl
@[simp] theorem raiseContractViolation_k2 : (raiseContractViolation c s).k2 = s.k2 := rfl
@[simp] theorem raiseContractViolation_k3 : (raiseContractViolation c s).k3 = s.k3 := rfl
@[simp] theorem raiseContractViolation_mode : (raiseContractViolation c s).mode = s.mode := rfl
@[simp] theorem raiseContractViolation_t : (raiseContractViolation c s).t = s.t := rfl
@[simp] theorem raiseContractViolation_step : (raiseContractViolation c s).step = 5#3 := rfl
@[simp] theorem raiseContractViolation_status : (raiseContractViolation c s).status = 1#2 := rfl
@[simp] theorem raiseContractViolation_cause : (raiseContractViolation c s).cause = c := rfl
@[simp] theorem raiseContractViolation_dout : (raiseContractViolation c s).dout = s.dout := rfl
@[simp] theorem raiseContractViolation_doutValid : (raiseContractViolation c s).doutValid = false := rfl
@[simp] theorem raiseContractViolation_pend : (raiseContractViolation c s).pend = s.pend := rfl
@[simp] theorem raiseContractViolation_trace : (raiseContractViolation c s).trace = s.trace := rfl
@[simp] theorem raiseContractViolation_host : (raiseContractViolation c s).host = s.host := rfl
@[simp] theorem raiseContractViolation_hostNext : (raiseContractViolation c s).hostNext = s.hostNext := rfl
@[simp] theorem raiseContractViolation_core : (raiseContractViolation c s).core = s.core := rfl
@[simp] theorem raiseContractViolation_grain : (raiseContractViolation c s).grain = s.grain := rfl
@[simp] theorem raiseContractViolation_resets : (raiseContractViolation c s).resets = s.resets := rfl
end

/-! `raiseInternalAssert` writes `PEND`, `STATUS`, `CAUSE`, `DOUT_VALID`, `STEP` (R125). -/

section
variable (s : State)
@[simp] theorem raiseInternalAssert_op : (raiseInternalAssert s).op = s.op := rfl
@[simp] theorem raiseInternalAssert_kmPresent : (raiseInternalAssert s).kmPresent = s.kmPresent := rfl
@[simp] theorem raiseInternalAssert_dinPresent : (raiseInternalAssert s).dinPresent = s.dinPresent := rfl
@[simp] theorem raiseInternalAssert_kmLen : (raiseInternalAssert s).kmLen = s.kmLen := rfl
@[simp] theorem raiseInternalAssert_dinLen : (raiseInternalAssert s).dinLen = s.dinLen := rfl
@[simp] theorem raiseInternalAssert_km : (raiseInternalAssert s).km = s.km := rfl
@[simp] theorem raiseInternalAssert_din : (raiseInternalAssert s).din = s.din := rfl
@[simp] theorem raiseInternalAssert_k1 : (raiseInternalAssert s).k1 = s.k1 := rfl
@[simp] theorem raiseInternalAssert_k2 : (raiseInternalAssert s).k2 = s.k2 := rfl
@[simp] theorem raiseInternalAssert_k3 : (raiseInternalAssert s).k3 = s.k3 := rfl
@[simp] theorem raiseInternalAssert_mode : (raiseInternalAssert s).mode = s.mode := rfl
@[simp] theorem raiseInternalAssert_t : (raiseInternalAssert s).t = s.t := rfl
@[simp] theorem raiseInternalAssert_step : (raiseInternalAssert s).step = 5#3 := rfl
@[simp] theorem raiseInternalAssert_status : (raiseInternalAssert s).status = 2#2 := rfl
@[simp] theorem raiseInternalAssert_cause : (raiseInternalAssert s).cause = 5#3 := rfl
@[simp] theorem raiseInternalAssert_dout : (raiseInternalAssert s).dout = s.dout := rfl
@[simp] theorem raiseInternalAssert_doutValid : (raiseInternalAssert s).doutValid = false := rfl
@[simp] theorem raiseInternalAssert_pend : (raiseInternalAssert s).pend = none := rfl
@[simp] theorem raiseInternalAssert_trace : (raiseInternalAssert s).trace = s.trace := rfl
@[simp] theorem raiseInternalAssert_host : (raiseInternalAssert s).host = s.host := rfl
@[simp] theorem raiseInternalAssert_hostNext : (raiseInternalAssert s).hostNext = s.hostNext := rfl
@[simp] theorem raiseInternalAssert_core : (raiseInternalAssert s).core = s.core := rfl
@[simp] theorem raiseInternalAssert_grain : (raiseInternalAssert s).grain = s.grain := rfl
@[simp] theorem raiseInternalAssert_resets : (raiseInternalAssert s).resets = s.resets := rfl
end

/-! `complete` writes `DOUT`, `STATUS`, `CAUSE`, `DOUT_VALID`, `STEP` (R102). -/

section
variable (s : State)
@[simp] theorem complete_op : (complete s).op = s.op := rfl
@[simp] theorem complete_kmPresent : (complete s).kmPresent = s.kmPresent := rfl
@[simp] theorem complete_dinPresent : (complete s).dinPresent = s.dinPresent := rfl
@[simp] theorem complete_kmLen : (complete s).kmLen = s.kmLen := rfl
@[simp] theorem complete_dinLen : (complete s).dinLen = s.dinLen := rfl
@[simp] theorem complete_km : (complete s).km = s.km := rfl
@[simp] theorem complete_din : (complete s).din = s.din := rfl
@[simp] theorem complete_k1 : (complete s).k1 = s.k1 := rfl
@[simp] theorem complete_k2 : (complete s).k2 = s.k2 := rfl
@[simp] theorem complete_k3 : (complete s).k3 = s.k3 := rfl
@[simp] theorem complete_mode : (complete s).mode = s.mode := rfl
@[simp] theorem complete_t : (complete s).t = s.t := rfl
@[simp] theorem complete_step : (complete s).step = 5#3 := rfl
@[simp] theorem complete_status : (complete s).status = 0#2 := rfl
@[simp] theorem complete_cause : (complete s).cause = 0#3 := rfl
@[simp] theorem complete_dout : (complete s).dout = s.t := rfl
@[simp] theorem complete_doutValid : (complete s).doutValid = true := rfl
@[simp] theorem complete_pend : (complete s).pend = s.pend := rfl
@[simp] theorem complete_trace : (complete s).trace = s.trace := rfl
@[simp] theorem complete_host : (complete s).host = s.host := rfl
@[simp] theorem complete_hostNext : (complete s).hostNext = s.hostNext := rfl
@[simp] theorem complete_core : (complete s).core = s.core := rfl
@[simp] theorem complete_grain : (complete s).grain = s.grain := rfl
@[simp] theorem complete_resets : (complete s).resets = s.resets := rfl
end

/-! `keySplit` writes `K[1..3]`, `MODE`, `T`, `STEP` (R80 to R84, R88). -/

section
variable (s : State)
@[simp] theorem keySplit_op : (keySplit s).op = s.op := rfl
@[simp] theorem keySplit_kmPresent : (keySplit s).kmPresent = s.kmPresent := rfl
@[simp] theorem keySplit_dinPresent : (keySplit s).dinPresent = s.dinPresent := rfl
@[simp] theorem keySplit_kmLen : (keySplit s).kmLen = s.kmLen := rfl
@[simp] theorem keySplit_dinLen : (keySplit s).dinLen = s.dinLen := rfl
@[simp] theorem keySplit_km : (keySplit s).km = s.km := rfl
@[simp] theorem keySplit_din : (keySplit s).din = s.din := rfl
@[simp] theorem keySplit_k1 : (keySplit s).k1 = subKey1 s.km := rfl
@[simp] theorem keySplit_k2 : (keySplit s).k2 = subKey2 s.km := rfl
@[simp] theorem keySplit_k3 : (keySplit s).k3 = subKey3 s.kmLen s.km := rfl
@[simp] theorem keySplit_mode : (keySplit s).mode = modeOf s.kmLen := rfl
@[simp] theorem keySplit_t : (keySplit s).t = s.din := rfl
@[simp] theorem keySplit_step : (keySplit s).step = 2#3 := rfl
@[simp] theorem keySplit_status : (keySplit s).status = s.status := rfl
@[simp] theorem keySplit_cause : (keySplit s).cause = s.cause := rfl
@[simp] theorem keySplit_dout : (keySplit s).dout = s.dout := rfl
@[simp] theorem keySplit_doutValid : (keySplit s).doutValid = s.doutValid := rfl
@[simp] theorem keySplit_pend : (keySplit s).pend = s.pend := rfl
@[simp] theorem keySplit_trace : (keySplit s).trace = s.trace := rfl
@[simp] theorem keySplit_host : (keySplit s).host = s.host := rfl
@[simp] theorem keySplit_hostNext : (keySplit s).hostNext = s.hostNext := rfl
@[simp] theorem keySplit_core : (keySplit s).core = s.core := rfl
@[simp] theorem keySplit_grain : (keySplit s).grain = s.grain := rfl
@[simp] theorem keySplit_resets : (keySplit s).resets = s.resets := rfl
end

/-! `issueCall` writes `PEND` (R99). -/

section
variable (s : State)
@[simp] theorem issueCall_op : (issueCall s).op = s.op := rfl
@[simp] theorem issueCall_kmPresent : (issueCall s).kmPresent = s.kmPresent := rfl
@[simp] theorem issueCall_dinPresent : (issueCall s).dinPresent = s.dinPresent := rfl
@[simp] theorem issueCall_kmLen : (issueCall s).kmLen = s.kmLen := rfl
@[simp] theorem issueCall_dinLen : (issueCall s).dinLen = s.dinLen := rfl
@[simp] theorem issueCall_km : (issueCall s).km = s.km := rfl
@[simp] theorem issueCall_din : (issueCall s).din = s.din := rfl
@[simp] theorem issueCall_k1 : (issueCall s).k1 = s.k1 := rfl
@[simp] theorem issueCall_k2 : (issueCall s).k2 = s.k2 := rfl
@[simp] theorem issueCall_k3 : (issueCall s).k3 = s.k3 := rfl
@[simp] theorem issueCall_mode : (issueCall s).mode = s.mode := rfl
@[simp] theorem issueCall_t : (issueCall s).t = s.t := rfl
@[simp] theorem issueCall_step : (issueCall s).step = s.step := rfl
@[simp] theorem issueCall_status : (issueCall s).status = s.status := rfl
@[simp] theorem issueCall_cause : (issueCall s).cause = s.cause := rfl
@[simp] theorem issueCall_dout : (issueCall s).dout = s.dout := rfl
@[simp] theorem issueCall_doutValid : (issueCall s).doutValid = s.doutValid := rfl
@[simp] theorem issueCall_pend : (issueCall s).pend = some (nextCall s) := rfl
@[simp] theorem issueCall_trace : (issueCall s).trace = s.trace := rfl
@[simp] theorem issueCall_host : (issueCall s).host = s.host := rfl
@[simp] theorem issueCall_hostNext : (issueCall s).hostNext = s.hostNext := rfl
@[simp] theorem issueCall_core : (issueCall s).core = s.core := rfl
@[simp] theorem issueCall_grain : (issueCall s).grain = s.grain := rfl
@[simp] theorem issueCall_resets : (issueCall s).resets = s.resets := rfl
end

/-! `takeAnswer` writes `TRACE`, `T`, `PEND` (R99). -/

section
variable (call : Call) (r : Block) (s : State)
@[simp] theorem takeAnswer_op : (takeAnswer call r s).op = s.op := rfl
@[simp] theorem takeAnswer_kmPresent : (takeAnswer call r s).kmPresent = s.kmPresent := rfl
@[simp] theorem takeAnswer_dinPresent : (takeAnswer call r s).dinPresent = s.dinPresent := rfl
@[simp] theorem takeAnswer_kmLen : (takeAnswer call r s).kmLen = s.kmLen := rfl
@[simp] theorem takeAnswer_dinLen : (takeAnswer call r s).dinLen = s.dinLen := rfl
@[simp] theorem takeAnswer_km : (takeAnswer call r s).km = s.km := rfl
@[simp] theorem takeAnswer_din : (takeAnswer call r s).din = s.din := rfl
@[simp] theorem takeAnswer_k1 : (takeAnswer call r s).k1 = s.k1 := rfl
@[simp] theorem takeAnswer_k2 : (takeAnswer call r s).k2 = s.k2 := rfl
@[simp] theorem takeAnswer_k3 : (takeAnswer call r s).k3 = s.k3 := rfl
@[simp] theorem takeAnswer_mode : (takeAnswer call r s).mode = s.mode := rfl
@[simp] theorem takeAnswer_t : (takeAnswer call r s).t = r := rfl
@[simp] theorem takeAnswer_step : (takeAnswer call r s).step = s.step := rfl
@[simp] theorem takeAnswer_status : (takeAnswer call r s).status = s.status := rfl
@[simp] theorem takeAnswer_cause : (takeAnswer call r s).cause = s.cause := rfl
@[simp] theorem takeAnswer_dout : (takeAnswer call r s).dout = s.dout := rfl
@[simp] theorem takeAnswer_doutValid : (takeAnswer call r s).doutValid = s.doutValid := rfl
@[simp] theorem takeAnswer_pend : (takeAnswer call r s).pend = none := rfl
@[simp] theorem takeAnswer_trace : (takeAnswer call r s).trace = s.trace ++ [⟨call.dir, call.key, call.blk, r⟩] := rfl
@[simp] theorem takeAnswer_host : (takeAnswer call r s).host = s.host := rfl
@[simp] theorem takeAnswer_hostNext : (takeAnswer call r s).hostNext = s.hostNext := rfl
@[simp] theorem takeAnswer_core : (takeAnswer call r s).core = s.core := rfl
@[simp] theorem takeAnswer_grain : (takeAnswer call r s).grain = s.grain := rfl
@[simp] theorem takeAnswer_resets : (takeAnswer call r s).resets = s.resets := rfl
end

/-! `advanceStep` writes `STEP` (R99). -/

section
variable (s : State)
@[simp] theorem advanceStep_op : (advanceStep s).op = s.op := rfl
@[simp] theorem advanceStep_kmPresent : (advanceStep s).kmPresent = s.kmPresent := rfl
@[simp] theorem advanceStep_dinPresent : (advanceStep s).dinPresent = s.dinPresent := rfl
@[simp] theorem advanceStep_kmLen : (advanceStep s).kmLen = s.kmLen := rfl
@[simp] theorem advanceStep_dinLen : (advanceStep s).dinLen = s.dinLen := rfl
@[simp] theorem advanceStep_km : (advanceStep s).km = s.km := rfl
@[simp] theorem advanceStep_din : (advanceStep s).din = s.din := rfl
@[simp] theorem advanceStep_k1 : (advanceStep s).k1 = s.k1 := rfl
@[simp] theorem advanceStep_k2 : (advanceStep s).k2 = s.k2 := rfl
@[simp] theorem advanceStep_k3 : (advanceStep s).k3 = s.k3 := rfl
@[simp] theorem advanceStep_mode : (advanceStep s).mode = s.mode := rfl
@[simp] theorem advanceStep_t : (advanceStep s).t = s.t := rfl
@[simp] theorem advanceStep_step : (advanceStep s).step = s.step + 1#3 := rfl
@[simp] theorem advanceStep_status : (advanceStep s).status = s.status := rfl
@[simp] theorem advanceStep_cause : (advanceStep s).cause = s.cause := rfl
@[simp] theorem advanceStep_dout : (advanceStep s).dout = s.dout := rfl
@[simp] theorem advanceStep_doutValid : (advanceStep s).doutValid = s.doutValid := rfl
@[simp] theorem advanceStep_pend : (advanceStep s).pend = s.pend := rfl
@[simp] theorem advanceStep_trace : (advanceStep s).trace = s.trace := rfl
@[simp] theorem advanceStep_host : (advanceStep s).host = s.host := rfl
@[simp] theorem advanceStep_hostNext : (advanceStep s).hostNext = s.hostNext := rfl
@[simp] theorem advanceStep_core : (advanceStep s).core = s.core := rfl
@[simp] theorem advanceStep_grain : (advanceStep s).grain = s.grain := rfl
@[simp] theorem advanceStep_resets : (advanceStep s).resets = s.resets := rfl
end

/-! `coreMoves` writes `DES_CORE`'s script. -/

section
variable (s : State)
@[simp] theorem coreMoves_op : (coreMoves s).op = s.op := rfl
@[simp] theorem coreMoves_kmPresent : (coreMoves s).kmPresent = s.kmPresent := rfl
@[simp] theorem coreMoves_dinPresent : (coreMoves s).dinPresent = s.dinPresent := rfl
@[simp] theorem coreMoves_kmLen : (coreMoves s).kmLen = s.kmLen := rfl
@[simp] theorem coreMoves_dinLen : (coreMoves s).dinLen = s.dinLen := rfl
@[simp] theorem coreMoves_km : (coreMoves s).km = s.km := rfl
@[simp] theorem coreMoves_din : (coreMoves s).din = s.din := rfl
@[simp] theorem coreMoves_k1 : (coreMoves s).k1 = s.k1 := rfl
@[simp] theorem coreMoves_k2 : (coreMoves s).k2 = s.k2 := rfl
@[simp] theorem coreMoves_k3 : (coreMoves s).k3 = s.k3 := rfl
@[simp] theorem coreMoves_mode : (coreMoves s).mode = s.mode := rfl
@[simp] theorem coreMoves_t : (coreMoves s).t = s.t := rfl
@[simp] theorem coreMoves_step : (coreMoves s).step = s.step := rfl
@[simp] theorem coreMoves_status : (coreMoves s).status = s.status := rfl
@[simp] theorem coreMoves_cause : (coreMoves s).cause = s.cause := rfl
@[simp] theorem coreMoves_dout : (coreMoves s).dout = s.dout := rfl
@[simp] theorem coreMoves_doutValid : (coreMoves s).doutValid = s.doutValid := rfl
@[simp] theorem coreMoves_pend : (coreMoves s).pend = s.pend := rfl
@[simp] theorem coreMoves_trace : (coreMoves s).trace = s.trace := rfl
@[simp] theorem coreMoves_host : (coreMoves s).host = s.host := rfl
@[simp] theorem coreMoves_hostNext : (coreMoves s).hostNext = s.hostNext := rfl
@[simp] theorem coreMoves_core : (coreMoves s).core = s.core.advance := rfl
@[simp] theorem coreMoves_grain : (coreMoves s).grain = s.grain := rfl
@[simp] theorem coreMoves_resets : (coreMoves s).resets = s.resets := rfl
end

/-! `hostMoves` writes the host's wires and list. -/

section
variable (s : State)
@[simp] theorem hostMoves_op : (hostMoves s).op = s.op := rfl
@[simp] theorem hostMoves_kmPresent : (hostMoves s).kmPresent = s.kmPresent := rfl
@[simp] theorem hostMoves_dinPresent : (hostMoves s).dinPresent = s.dinPresent := rfl
@[simp] theorem hostMoves_kmLen : (hostMoves s).kmLen = s.kmLen := rfl
@[simp] theorem hostMoves_dinLen : (hostMoves s).dinLen = s.dinLen := rfl
@[simp] theorem hostMoves_km : (hostMoves s).km = s.km := rfl
@[simp] theorem hostMoves_din : (hostMoves s).din = s.din := rfl
@[simp] theorem hostMoves_k1 : (hostMoves s).k1 = s.k1 := rfl
@[simp] theorem hostMoves_k2 : (hostMoves s).k2 = s.k2 := rfl
@[simp] theorem hostMoves_k3 : (hostMoves s).k3 = s.k3 := rfl
@[simp] theorem hostMoves_mode : (hostMoves s).mode = s.mode := rfl
@[simp] theorem hostMoves_t : (hostMoves s).t = s.t := rfl
@[simp] theorem hostMoves_step : (hostMoves s).step = s.step := rfl
@[simp] theorem hostMoves_status : (hostMoves s).status = s.status := rfl
@[simp] theorem hostMoves_cause : (hostMoves s).cause = s.cause := rfl
@[simp] theorem hostMoves_dout : (hostMoves s).dout = s.dout := rfl
@[simp] theorem hostMoves_doutValid : (hostMoves s).doutValid = s.doutValid := rfl
@[simp] theorem hostMoves_pend : (hostMoves s).pend = s.pend := rfl
@[simp] theorem hostMoves_trace : (hostMoves s).trace = s.trace := rfl
@[simp] theorem hostMoves_host : (hostMoves s).host = nextWires s := rfl
@[simp] theorem hostMoves_hostNext : (hostMoves s).hostNext = s.hostNext.tail := rfl
@[simp] theorem hostMoves_core : (hostMoves s).core = s.core := rfl
@[simp] theorem hostMoves_grain : (hostMoves s).grain = s.grain := rfl
@[simp] theorem hostMoves_resets : (hostMoves s).resets = s.resets := rfl
end

/-! `resetEntry` writes the six items of R141; the data registers are free (R27). -/

section
variable (s : State)
@[simp] theorem resetEntry_op : (resetEntry s).op = (Config.afterReset s.resets s.dataRegs).op := rfl
@[simp] theorem resetEntry_kmPresent : (resetEntry s).kmPresent = (Config.afterReset s.resets s.dataRegs).kmPresent := rfl
@[simp] theorem resetEntry_dinPresent : (resetEntry s).dinPresent = (Config.afterReset s.resets s.dataRegs).dinPresent := rfl
@[simp] theorem resetEntry_kmLen : (resetEntry s).kmLen = (Config.afterReset s.resets s.dataRegs).kmLen := rfl
@[simp] theorem resetEntry_dinLen : (resetEntry s).dinLen = (Config.afterReset s.resets s.dataRegs).dinLen := rfl
@[simp] theorem resetEntry_km : (resetEntry s).km = (Config.afterReset s.resets s.dataRegs).km := rfl
@[simp] theorem resetEntry_din : (resetEntry s).din = (Config.afterReset s.resets s.dataRegs).din := rfl
@[simp] theorem resetEntry_k1 : (resetEntry s).k1 = (Config.afterReset s.resets s.dataRegs).k1 := rfl
@[simp] theorem resetEntry_k2 : (resetEntry s).k2 = (Config.afterReset s.resets s.dataRegs).k2 := rfl
@[simp] theorem resetEntry_k3 : (resetEntry s).k3 = (Config.afterReset s.resets s.dataRegs).k3 := rfl
@[simp] theorem resetEntry_mode : (resetEntry s).mode = (Config.afterReset s.resets s.dataRegs).mode := rfl
@[simp] theorem resetEntry_t : (resetEntry s).t = (Config.afterReset s.resets s.dataRegs).t := rfl
@[simp] theorem resetEntry_step : (resetEntry s).step = 0#3 := rfl
@[simp] theorem resetEntry_status : (resetEntry s).status = 0#2 := rfl
@[simp] theorem resetEntry_cause : (resetEntry s).cause = 0#3 := rfl
@[simp] theorem resetEntry_dout : (resetEntry s).dout = (Config.afterReset s.resets s.dataRegs).dout := rfl
@[simp] theorem resetEntry_doutValid : (resetEntry s).doutValid = false := rfl
@[simp] theorem resetEntry_pend : (resetEntry s).pend = none := rfl
@[simp] theorem resetEntry_trace : (resetEntry s).trace = [] := rfl
@[simp] theorem resetEntry_host : (resetEntry s).host = s.host := rfl
@[simp] theorem resetEntry_hostNext : (resetEntry s).hostNext = s.hostNext := rfl
@[simp] theorem resetEntry_core : (resetEntry s).core = s.core := rfl
@[simp] theorem resetEntry_grain : (resetEntry s).grain = s.grain := rfl
@[simp] theorem resetEntry_resets : (resetEntry s).resets = s.resets + 1 := rfl
end

end Sys2Proof.Machine
end

