-- ==== Sys2Proof/Laws/Ops.lean ====
section
/-! SUPPORT. What each shared operation does, once: cite these instead of unfolding the operations. -/

namespace Sys2Proof.Machine

open Sys2Proof.Safety

/-! ## Windows and operands -/

/-- A window is the 64 vector bits below sequence index `a` (R9, R42). -/
theorem window_eq_extract (km : KeyBus) (a : Nat) (h : a + Config.W ≤ Config.KMW) :
    window km a h = km.extractLsb' (192 - (a + 64)) 64 := by
  ext i hi
  simp [window, copyBits, zeroSeq]

theorem subKey1_eq (km : KeyBus) : subKey1 km = km.extractLsb' 128 64 := window_eq_extract ..

theorem subKey2_eq (km : KeyBus) : subKey2 km = km.extractLsb' 64 64 := window_eq_extract ..

theorem subKey3_eq (kl : LenField) (km : KeyBus) : subKey3 kl km = keyOf kl km .k3 := by
  have h : kl.toNat = Config.KLEN3 ↔ kl = 192#8 := BitVec.toNat_inj (y := 192#8)
  simp only [subKey3, keyOf, h, window_eq_extract]

theorem modeOf_eq (kl : LenField) : modeOf kl = if kl = 192#8 then .threeKey else .twoKey := by
  have h : kl.toNat = Config.KLEN3 ↔ kl = 192#8 := BitVec.toNat_inj (y := 192#8)
  simp [modeOf, h]

/-! ## VALIDATE -/

theorem violation_eq_none_iff (kp dp : Bool) (kl dl : LenField) :
    violation kp kl dp dl = none ↔ ValidOperands kp dp kl dl := by
  have h2 : kl.toNat = Config.KLEN2 ↔ kl = 128#8 := BitVec.toNat_inj (y := 128#8)
  have h3 : kl.toNat = Config.KLEN3 ↔ kl = 192#8 := BitVec.toNat_inj (y := 192#8)
  have hw : dl.toNat = Config.W ↔ dl = 64#8 := BitVec.toNat_inj (y := 64#8)
  simp only [violation, ValidOperands, ne_eq, h2, h3, hw]
  cases kp <;> cases dp <;> by_cases e2 : kl = 128#8 <;> by_cases e3 : kl = 192#8 <;> by_cases ew : dl = 64#8 <;>
    simp_all

theorem violation_eq_some_iff (kp dp : Bool) (kl dl : LenField) (c : BitVec 3) :
    violation kp kl dp dl = some c ↔ Reports kp dp kl dl c := by
  have h2 : kl.toNat = Config.KLEN2 ↔ kl = 128#8 := BitVec.toNat_inj (y := 128#8)
  have h3 : kl.toNat = Config.KLEN3 ↔ kl = 192#8 := BitVec.toNat_inj (y := 192#8)
  have hw : dl.toNat = Config.W ↔ dl = 64#8 := BitVec.toNat_inj (y := 64#8)
  simp only [violation, Reports, ne_eq, h2, h3, hw]
  cases kp <;> cases dp <;> by_cases e2 : kl = 128#8 <;> by_cases e3 : kl = 192#8 <;> by_cases ew : dl = 64#8 <;>
    simp_all [eq_comm]

/-! ## The block's own step -/

section
variable {c : DesCore} {s : State}

theorem tick_check (h : s.step = 1#3) : tick c s = check s := by
  simp [tick, h]

theorem check_of_violation {x : BitVec 3} (h : violation s.kmPresent s.kmLen s.dinPresent s.dinLen = some x) :
    check s = raiseContractViolation x s := by
  simp [check, h]

theorem check_of_valid (h : ValidOperands s.kmPresent s.dinPresent s.kmLen s.dinLen) : check s = keySplit s := by
  simp [check, (violation_eq_none_iff ..).mpr h]

theorem calling_iff : calling s = true ↔ s.step = 2#3 ∨ s.step = 3#3 ∨ s.step = 4#3 := by
  simp [calling, or_assoc]

theorem accepting_iff : accepting s = true ↔ s.step = 0#3 ∨ s.step = 5#3 := by
  simp [accepting]

theorem busy_iff : busy s = true ↔ s.step = 1#3 ∨ s.step = 2#3 ∨ s.step = 3#3 ∨ s.step = 4#3 := by
  simp [busy, calling_iff]

theorem stuck_iff : stuck s = true ↔ s.step = 6#3 ∨ s.step = 7#3 := by
  simp [stuck]

theorem not_check_of_calling (h : calling s = true) : s.step ≠ 1#3 := by
  rcases calling_iff.mp h with h | h | h <;> rw [h] <;> decide

theorem tick_issue (h : calling s = true) (hp : s.pend = none) : tick c s = issueCall s := by
  simp [tick, not_check_of_calling h, h, hp]

theorem tick_poll {call : Call} (h : calling s = true) (hp : s.pend = some call) : tick c s = pollCall c call s := by
  simp [tick, not_check_of_calling h, h, hp]

theorem tick_of_not_busy (h : busy s = false) : tick c s = s := by
  have h1 : s.step ≠ 1#3 := fun e => by simp [busy, e] at h
  have h2 : calling s = false := by
    cases hc : calling s
    · rfl
    · simp [busy, hc] at h
  simp [tick, h1, h2]

/-- Everything a step of the block can do. -/
theorem tick_cases (c : DesCore) (s : State) :
    (s.step = 1#3 ∧ ∃ x, Reports s.kmPresent s.dinPresent s.kmLen s.dinLen x ∧ tick c s = raiseContractViolation x s) ∨
    (s.step = 1#3 ∧ ValidOperands s.kmPresent s.dinPresent s.kmLen s.dinLen ∧ tick c s = keySplit s) ∨
    (calling s = true ∧ s.pend = none ∧ tick c s = issueCall s) ∨
    (∃ call, calling s = true ∧ s.pend = some call ∧ s.core.now = .ok ∧ s.step ≠ 4#3 ∧
      tick c s = advanceStep (takeAnswer call (c.answer call) (coreMoves s))) ∨
    (∃ call, calling s = true ∧ s.pend = some call ∧ s.core.now = .ok ∧ s.step = 4#3 ∧
      tick c s = complete (takeAnswer call (c.answer call) (coreMoves s))) ∨
    (∃ call, calling s = true ∧ s.pend = some call ∧ s.core.now = .fail ∧ tick c s = raiseInternalAssert (coreMoves s)) ∨
    (∃ call, calling s = true ∧ s.pend = some call ∧ s.core.now = .silent ∧ tick c s = coreMoves s) ∨
    (busy s = false ∧ tick c s = s) := by
  by_cases h1 : s.step = 1#3
  · cases hv : violation s.kmPresent s.kmLen s.dinPresent s.dinLen with
    | some x => exact .inl ⟨h1, x, (violation_eq_some_iff ..).mp hv, by rw [tick_check h1, check_of_violation hv]⟩
    | none =>
      have hv := (violation_eq_none_iff ..).mp hv
      exact .inr (.inl ⟨h1, hv, by rw [tick_check h1, check_of_valid hv]⟩)
  · cases hc : calling s with
    | false =>
      have hb : busy s = false := by simp [busy, h1, hc]
      exact .inr (.inr (.inr (.inr (.inr (.inr (.inr ⟨hb, tick_of_not_busy hb⟩))))))
    | true =>
      cases hp : s.pend with
      | none => exact .inr (.inr (.inl ⟨rfl, rfl, tick_issue hc hp⟩))
      | some call =>
        have ht : tick c s = pollCall c call s := tick_poll hc hp
        cases hn : s.core.now with
        | ok =>
          by_cases h4 : s.step = 4#3
          · exact .inr (.inr (.inr (.inr (.inl ⟨call, rfl, rfl, rfl, h4, by simp [ht, pollCall, hn, afterAnswer, h4]⟩))))
          · exact .inr (.inr (.inr (.inl ⟨call, rfl, rfl, rfl, h4, by simp [ht, pollCall, hn, afterAnswer, h4]⟩)))
        | fail => exact .inr (.inr (.inr (.inr (.inr (.inl ⟨call, rfl, rfl, rfl, by simp [ht, pollCall, hn]⟩)))))
        | silent => exact .inr (.inr (.inr (.inr (.inr (.inr (.inl ⟨call, rfl, rfl, rfl, by simp [ht, pollCall, hn]⟩))))))

/-- The block's own step touches neither the host's wires nor the grain nor the latch. -/
theorem tick_outside (c : DesCore) (s : State) :
    (tick c s).host = s.host ∧ (tick c s).hostNext = s.hostNext ∧ (tick c s).grain = s.grain ∧
    (tick c s).resets = s.resets ∧ (tick c s).op = s.op ∧ (tick c s).kmPresent = s.kmPresent ∧
    (tick c s).dinPresent = s.dinPresent ∧ (tick c s).kmLen = s.kmLen ∧ (tick c s).dinLen = s.dinLen ∧
    (tick c s).km = s.km ∧ (tick c s).din = s.din := by
  rcases tick_cases c s with ⟨_, _, _, h⟩ | ⟨_, _, h⟩ | ⟨_, _, h⟩ | ⟨_, _, _, _, _, h⟩ | ⟨_, _, _, _, _, h⟩ |
    ⟨_, _, _, _, h⟩ | ⟨_, _, _, _, h⟩ | ⟨_, h⟩ <;> simp [h]

/-! ## Running on -/

/-- The block's own step neither reads nor moves the grain and the host's list. -/
theorem tick_regrain (c : DesCore) (s : State) (g : Grain) (ws : List HostWires) :
    tick c { s with grain := g, hostNext := ws } = { tick c s with grain := g, hostNext := ws } := by
  by_cases h1 : s.step = 1#3
  · rw [tick_check h1, tick_check (s := { s with grain := g, hostNext := ws }) h1]
    simp only [check]
    cases violation s.kmPresent s.kmLen s.dinPresent s.dinLen <;> rfl
  · by_cases hc : calling s = true
    · have hc' : calling { s with grain := g, hostNext := ws } = true := hc
      obtain ⟨o, hp⟩ : ∃ o, s.pend = o := ⟨_, rfl⟩
      rcases o with _ | call
      · rw [tick_issue hc hp, tick_issue hc' hp]; rfl
      · rw [tick_poll hc hp, tick_poll hc' hp]
        simp only [pollCall]
        cases s.core.now
        · by_cases h4 : s.step = 4#3 <;> simp [afterAnswer, h4] <;> rfl
        · rfl
        · rfl
    · have hb : busy s = false := by simp [busy, h1, hc]
      rw [tick_of_not_busy hb, tick_of_not_busy (s := { s with grain := g, hostNext := ws }) hb]

theorem settle_stop {n : Nat} (h : busy s = false ∨ waitingForCore s = true) : settle c n s = s := by
  cases n with
  | zero => rfl
  | succ n => rcases h with h | h <;> simp [settle, h]

theorem settle_go {n : Nat} (hb : busy s = true) (hw : waitingForCore s = false) :
    settle c (n + 1) s = settle c n (tick c s) := by
  simp [settle, hb, hw]

/-- What every block step keeps, running on keeps. -/
theorem settle_keeps {P : State → Prop} (ht : ∀ s, P s → P (tick c s)) (n : Nat) : ∀ s, P s → P (settle c n s) := by
  induction n with
  | zero => exact fun s h => h
  | succ n ih =>
    intro s h
    simp only [settle]
    split
    · exact h
    · exact ih _ (ht s h)

theorem goOn_keeps {P : State → Prop} (ht : ∀ s, P s → P (tick c s)) (h : P s) : P (goOn c s) := by
  unfold goOn
  split
  · exact h
  · exact settle_keeps ht _ s h

theorem goOn_micro (h : s.grain = .micro) : goOn c s = s := by
  simp [goOn, h]

theorem goOn_operation (h : s.grain = .operation) : goOn c s = settle c 7 s := by
  simp only [goOn, h]
  rfl

end

/-! ## Requests and steps -/

/-- Every instruction is the request with its header's fields. -/
theorem exec_eq_request (i : Instr) (s : State) : exec i s = request desCore i.header s := by
  cases i <;> rfl

theorem request_of_accepting {c : DesCore} {f : Header} {s : State} (h : accepting s = true) :
    request c f s = .next (goOn c (accept f s)) := by
  simp [request, h]

theorem request_of_not_accepting {c : DesCore} {f : Header} {s : State} (h : accepting s = false) :
    request c f s = blockMove c s := by
  simp [request, h]

theorem blockMove_of_not_stuck {c : DesCore} {s : State} (h : stuck s = false) :
    blockMove c s = .next (goOn c (tick c s)) := by
  simp [blockMove, h]

/-- Everything a step can do: reset, accept a request, make the block's own step, or stop in a `STEP` that has no step. -/
theorem step_cases (s : State) :
    (s.host.reset = true ∧ step s = .next (hostMoves (resetEntry s))) ∨
    (s.host.reset = false ∧ s.host.req = true ∧ accepting s = true ∧
      step s = .next (hostMoves (goOn desCore (accept (decode s.host.hdr).header s)))) ∨
    (s.host.reset = false ∧ (s.host.req = false ∨ accepting s = false) ∧ stuck s = false ∧
      step s = .next (hostMoves (goOn desCore (tick desCore s)))) ∨
    (s.host.reset = false ∧ stuck s = true ∧ step s = .fault .stuckStep) := by
  cases hr : s.host.reset with
  | true => exact .inl ⟨rfl, by simp [step, hr]⟩
  | false =>
    cases ha : accepting s <;> cases hq : s.host.req <;> cases hs : stuck s <;>
      first
      | (exfalso
         rcases accepting_iff.mp ha with h | h <;> rcases stuck_iff.mp hs with h' | h' <;>
           exact absurd (h.symm.trans h') (by decide))
      | exact .inr (.inl ⟨rfl, rfl, rfl, by simp [step, hr, hq, exec_eq_request, request, ha, onNext]⟩)
      | exact .inr (.inr (.inl ⟨rfl, by simp, rfl, by
          simp [step, hr, hq, exec_eq_request, request, ha, blockMove, hs, onNext]⟩))
      | exact .inr (.inr (.inr ⟨rfl, rfl, by
          simp [step, hr, hq, exec_eq_request, request, ha, blockMove, hs, onNext]⟩))

/-- What reset, accept, the block's own step and the host's move keep, every step keeps. -/
theorem step_keeps {P : State → Prop} (hr : ∀ s, P (resetEntry s)) (ha : ∀ f s, accepting s = true → P s → P (accept f s))
    (ht : ∀ s, P s → P (tick desCore s)) (hh : ∀ s, P s → P (hostMoves s)) {s t : State} (h : P s)
    (hs : step s = .next t) : P t := by
  rcases step_cases s with ⟨_, e⟩ | ⟨_, _, hacc, e⟩ | ⟨_, _, _, e⟩ | ⟨_, _, e⟩ <;> rw [e] at hs <;> cases hs
  · exact hh _ (hr s)
  · exact hh _ (goOn_keeps ht (ha _ s hacc h))
  · exact hh _ (goOn_keeps ht (ht s h))

/-- The first step of a run that starts with a step to a next state. -/
theorem run_succ {s t : State} (n : Nat) (h : step s = .next t) : Host.Core.run core (n + 1) s = Host.Core.run core n t := by
  have h' : core.step s = .next t := h
  simp only [Host.Core.run, h']

end Sys2Proof.Machine
end

