-- ==== Sys2Proof/Laws/PerInstr.lean ====
section
/-! SUPPORT. One lemma per constructor of Instr, for the family HeaderFields named in LAWS.json: the header fields of an instruction's
encoding are the instruction's own (R54). -/

namespace Sys2Proof.Laws

/-- Unpacking a packed header gives its fields back (R54). -/
theorem ofWord_toWord (f : Header) : Header.ofWord (Header.toWord f) = f := by
  obtain ⟨op, kp, dp, kl, dl⟩ := f
  have hk := kl.isLt
  have hd := dl.isLt
  simp only [Header.ofWord, Header.toWord, Header.mk.injEq, BitVec.getLsbD_ofNat, Nat.testBit_eq_decide_div_mod_eq]
  refine ⟨?_, ?_, ?_, ?_, ?_⟩
  · cases op <;> cases kp <;> cases dp <;> simp [Op.bit, Op.ofBit] <;> omega
  · cases op <;> cases kp <;> cases dp <;> simp [Op.bit] <;> omega
  · cases op <;> cases kp <;> cases dp <;> simp [Op.bit] <;> omega
  · apply BitVec.eq_of_toNat_eq
    simp [BitVec.extractLsb'_toNat, Nat.shiftRight_eq_div_pow]
    omega
  · apply BitVec.eq_of_toNat_eq
    simp [BitVec.extractLsb'_toNat]
    omega

end Sys2Proof.Laws

namespace Sys2Proof.Laws.HeaderFields

/-- The encoding of `i` holds the header fields of `i`. -/
def Statement (i : Instr) : Prop :=
  Header.ofWord (encode i) = i.header

theorem encrypt (kp dp : Bool) (kl dl : LenField) : Statement (.encrypt kp dp kl dl) := ofWord_toWord _
theorem decrypt (kp dp : Bool) (kl dl : LenField) : Statement (.decrypt kp dp kl dl) := ofWord_toWord _
theorem encrypt2K : Statement .encrypt2K := by unfold Statement; decide
theorem encrypt3K : Statement .encrypt3K := by unfold Statement; decide
theorem decrypt2K : Statement .decrypt2K := by unfold Statement; decide
theorem decrypt3K : Statement .decrypt3K := by unfold Statement; decide

end Sys2Proof.Laws.HeaderFields
end

