-- ==== Sys2Proof/Tests/Slice0.lean ====
section
/-! SUPPORT. Small tests with expected results from spec/, and a witness for the hypotheses of each statement. -/

namespace Sys2Proof.Tests

open Sys2Proof.Machine Sys2Proof.Safety

/-! ## Well-formedness: an ill-formed term for each check -/

theorem test_two_key_form_is_spelled_by_its_row : (Instr.encrypt true true 128 64).wellFormed = false := by decide
theorem test_three_key_form_is_spelled_by_its_row : (Instr.decrypt true true 192 64).wellFormed = false := by decide
theorem test_other_headers_are_well_formed : (Instr.encrypt true true 127 64).wellFormed = true := by decide

/-! ## Decoding: words written out from 30_encoding.md R54 and spec/opcode_table.json's patterns -/

-- encoding "0kdllllllllnnnnnnnn": k = 1, d = 0, l = 01111111, n = 01000000
theorem test_decode_encrypt : decode 0b0100111111101000000#19 = .encrypt true false 127 64 := by decide
-- encoding "1kdllllllllnnnnnnnn": k = 0, d = 1, l = 11000000, n = 00111111
theorem test_decode_decrypt : decode 0b1011100000000111111#19 = .decrypt false true 192 63 := by decide
-- the alias rows' patterns
theorem test_decode_encrypt2K : decode 0b0111000000001000000#19 = .encrypt2K := by decide
theorem test_decode_encrypt3K : decode 0b0111100000001000000#19 = .encrypt3K := by decide
theorem test_decode_decrypt2K : decode 0b1111000000001000000#19 = .decrypt2K := by decide
theorem test_decode_decrypt3K : decode 0b1111100000001000000#19 = .decrypt3K := by decide
theorem test_table_word_too_wide : decodeTableWord 24 0x80000 = none := by decide
theorem test_number_too_wide_is_rejected_by_name : (match decodeNumber 0x80000 with
    | .error e => e == DecodeError.widerThanHeader | .ok _ => false) = true := by decide

/-! ## Sequences -/

-- R9: the sequence 0123456789ABCDEF has s[0..8) = 0,0,0,0,0,0,0,1, s[7] = 1 and s[63] = 1
theorem test_bit_order : (List.range 8).map (seqBit 0x0123456789ABCDEF#64) = [false, false, false, false, false, false, false, true] ∧
    seqBit 0x0123456789ABCDEF#64 63 = true := by decide
-- R9: hex digits follow index order
theorem test_hex : seqHex 0x01ABEF#24 = ['0', '1', 'A', 'B', 'E', 'F'] := by decide
-- R39: byte 0 first
theorem test_byte_order : seqByte 0x0123456789ABCDEF#64 0 = 0x01 ∧ seqByte 0x0123456789ABCDEF#64 7 = 0xEF := by decide

/-! ## The vectors of 95_test_vectors.md with its stand-in core TOYDES -/

/-- `r(k)` of TOYDES: the first hex digit of the key. -/
def toyShift (k : Block) : Nat :=
  (k.extractLsb' 60 4).toNat

/-- TOYDES (95_test_vectors.md section 3). -/
def toy : DesCore where
  enc k x := x.rotateLeft (toyShift k) ^^^ (k &&& 0xFEFEFEFEFEFEFEFE)
  dec k y := (y ^^^ (k &&& 0xFEFEFEFEFEFEFEFE)).rotateRight (toyShift k)

/-- From reset, the host presents this request; `DES_CORE` behaves as listed, then answers. -/
def presents (hdr : HeaderWord) (km : KeyBus) (din : Block) (script : List CoreAnswer) : State :=
  { State.reset with host := ⟨false, true, hdr, km, din⟩, core := ⟨script, .ok⟩ }

/-- The state the request on the wires ends in, with TOYDES at the port. -/
def endsIn (s : State) : Option State :=
  match request toy (decode s.host.hdr).header s with
  | .next t => some t
  | .fault _ => none
  | .refused _ => none

/-- The state after one step of the machine. -/
def afterStep (s : State) : Option State :=
  match step s with
  | .next t => some t
  | .fault _ => none
  | .refused _ => none

def kmVT2 : KeyBus := 0x111111111111111122222222222222224444444444444444

-- VT2: result and the KEY and RES of each call
theorem test_VT2 : (endsIn (presents 0x3C040 kmVT2 0x0123456789ABCDEF [])).map
    (fun t => (t.status, t.dout, t.trace.map fun r => (r.key, r.res))) =
    some (0, 0x8596A7B0C1D2E3F4, [(0x1111111111111111, 0x12569ADF03478BCE), (0x2222222222222222, 0x0C1D2E3F48596A7B),
      (0x4444444444444444, 0x8596A7B0C1D2E3F4)]) := by decide

-- VF1: call 2 fails
theorem test_VF1 : (endsIn (presents 0x3C040 kmVT2 0x0123456789ABCDEF [.ok, .fail])).map
    (fun t => (t.status, t.cause, t.doutValid, t.step, t.t, t.trace.length)) =
    some (2, 5, false, 5, 0x12569ADF03478BCE, 1) := by decide

-- VT4: two-key, filler AAAAAAAAAAAAAAAA not read
theorem test_VT4 : (endsIn (presents 0x38040 0x11111111111111112222222222222222AAAAAAAAAAAAAAAA 0x0123456789ABCDEF [])).map
    (fun t => (t.k3, t.mode, t.dout)) = some (0x1111111111111111, .twoKey, 0x082A4C6E80A2C4E6) := by decide

-- VT3 and VT9: the keys of DECRYPT in their order
theorem test_VT3 : (endsIn (presents 0x7C040 kmVT2 0xDDBBA2806EA62AE4 [])).map (fun t => (t.mode, t.dout)) =
    some (.threeKey, 0x0A26E5C19C4554CD) := by decide
theorem test_VT9 : (endsIn (presents 0x7C040 kmVT2 0x8596A7B0C1D2E3F4 [])).map
    (fun t => (t.doutValid, t.dout, t.trace.map fun r => r.dir)) =
    some (true, 0x0123456789ABCDEF, [.decrypt, .encrypt, .decrypt]) := by decide

-- VT10: two-key DECRYPT, filler 3333333333333333 not read
theorem test_VT10 : (endsIn (presents 0x78040 0x111111111111111122222222222222223333333333333333 0x082A4C6E80A2C4E6 [])).map
    (fun t => (t.status, t.dout)) = some (0, 0x0123456789ABCDEF) := by decide

-- VX1: D0's own literal 112 is rejected; VX20: absent data block
theorem test_VX1 : (endsIn (presents 0x37040 kmVT2 0x0123456789ABCDEF [])).map
    (fun t => (t.status, t.cause, t.step, t.doutValid, t.trace)) = some (1, 2, 5, false, []) := by decide
theorem test_VX20 : (endsIn (presents 0x2C040 kmVT2 0 [])).map (fun t => (t.status, t.cause)) = some (1, 3) := by decide

-- VX21: all four checks fail, the first cause wins; VX18: the longest data length
theorem test_VX21 : (endsIn (presents 0x46F3F 0 0 [])).map (fun t => (t.status, t.cause)) = some (1, 1) := by decide
theorem test_VX18 : (endsIn (presents 0x7C0FF kmVT2 0 [])).map (fun t => (t.status, t.cause)) = some (1, 4) := by decide

-- program P5: reset while call 2 is pending
theorem test_P5_reset : (afterStep { State.reset with
      step := 3#3, pend := some ⟨.decrypt, 0x2222222222222222, 0x12569ADF03478BCE⟩, host := ⟨true, true, 0x3C040, 0, 0⟩ }).map
    (fun t => (t.step, t.status, t.cause, t.doutValid, t.pend)) = some (0, 0, 0, false, none) := by decide

-- the first instruction from reset runs (log 10)
theorem test_placed_instruction_runs : (afterStep (State.reset.withFetchWord 24 0x38040)).map (fun t => (t.step, t.status, t.mode)) =
    some (5, 0, .twoKey) := by decide

/-! ## Witnesses: states and operands that meet the hypotheses of the statements -/

/-- A block ready for a request, one step a whole operation, `DES_CORE` behaving as listed. -/
def ready (script : List CoreAnswer) : State :=
  presents 0x3C040 kmVT2 0x0123456789ABCDEF script

/-- The same in `DONE` after other operations. -/
def readyAgain (script : List CoreAnswer) : State :=
  { ready script with
    step := 5#3, status := 2#2, cause := 5#3, k1 := 7#64, k2 := 8#64, t := 9#64, dout := 10#64, mode := .threeKey, kmLen := 3#8 }

/-- One step of R24 at a time, in a given `STEP`, with a latched request, and the answer `DES_CORE` gives next. -/
def at' (st : BitVec 3) (kmLen : LenField) (pend : Option Call) (answer : CoreAnswer) (host : HostWires) : State :=
  { State.reset with
    grain := .micro, step := st, kmPresent := true, dinPresent := true, kmLen := kmLen, dinLen := 64#8, km := kmVT2,
    pend := pend, core := ⟨[answer], .ok⟩, host := host }

def noRequest : HostWires := ⟨false, false, 0, 0, 0⟩
def aRequest : HostWires := ⟨false, true, 0x38040, 5, 6⟩
def aReset : HostWires := ⟨true, false, 0, 0, 0⟩
def aCall : Call := ⟨.encrypt, 1, 2⟩

theorem witness_DecodeOfEncode : (Instr.encrypt true true 255 64).wellFormed = true ∧ (Instr.decrypt false false 0 0).wellFormed = true ∧
    Instr.encrypt2K.wellFormed = true := by decide

theorem witness_OpcodeByBit18 : (0x3FFFF#19).getLsbD 18 = false ∧ (0x40000#19).getLsbD 18 = true := by decide

theorem witness_StepExecutesTheDecodedHeader : (ready []).host.reset = false ∧ (ready []).host.req = true ∧
    decode (ready []).host.hdr = .encrypt3K := by decide

-- each clause: IDLE and DONE with and without a request, CHECK valid and not, a call not issued, answered, failed, not answered
theorem witness_SequencerFollowsItsTable :
    ∀ s ∈ [at' 0 128 none .ok noRequest, at' 5 128 none .ok aRequest, at' 1 192 none .ok noRequest, at' 1 191 none .ok noRequest,
        at' 2 128 none .ok aRequest, at' 2 128 (some aCall) .ok noRequest, at' 4 192 (some aCall) .ok noRequest,
        at' 3 192 (some aCall) .fail noRequest, at' 4 192 (some aCall) .silent noRequest],
      s.grain = .micro ∧ s.host.reset = false ∧ s.step.toNat ≤ 5 := by decide

theorem witness_SequencerFollowsItsTable_check :
    ValidOperands (at' 1 192 none .ok noRequest).kmPresent (at' 1 192 none .ok noRequest).dinPresent
      (at' 1 192 none .ok noRequest).kmLen (at' 1 192 none .ok noRequest).dinLen ∧
    ¬ ValidOperands (at' 1 191 none .ok noRequest).kmPresent (at' 1 191 none .ok noRequest).dinPresent
      (at' 1 191 none .ok noRequest).kmLen (at' 1 191 none .ok noRequest).dinLen := by decide

theorem witness_UnnamedStepsAreStuck : (at' 6 128 none .ok aRequest).step = 6#3 ∧ (at' 7 128 none .ok noRequest).step = 7#3 ∧
    (at' 7 128 none .ok noRequest).host.reset = false ∧ (at' 5 128 none .ok aRequest).step.toNat ≤ 5 ∧
    (∃ t, step (at' 5 128 none .ok aRequest) = .next t) := ⟨rfl, rfl, rfl, by decide, _, rfl⟩

theorem witness_OnlyTheNamedStepsWrite :
    (at' 4 192 (some aCall) .ok noRequest).grain = .micro ∧ (at' 4 192 (some aCall) .ok noRequest).host.reset = false ∧
    (∃ t, step (at' 4 192 (some aCall) .ok noRequest) = .next t ∧ t.step = 5#3) ∧
    (∃ t, step (at' 0 192 none .ok noRequest) = .next t ∧ t.step = 0#3) ∧
    (∃ t, step (at' 2 192 none .ok aRequest) = .next t ∧ t.step = 2#3) :=
  ⟨rfl, rfl, ⟨_, rfl, rfl⟩, ⟨_, rfl, rfl⟩, ⟨_, rfl, rfl⟩⟩

theorem witness_AcceptLatchesTheRequest : (at' 0 128 none .ok aRequest).grain = .micro ∧ (at' 0 128 none .ok aRequest).step = 0#3 ∧
    (at' 5 128 none .ok aRequest).step = 5#3 := by decide

/-- CHECK with given header fields. -/
def checking (kp dp : Bool) (kl dl : LenField) : State :=
  { at' 1 kl none .ok noRequest with kmPresent := kp, dinPresent := dp, dinLen := dl }

theorem witness_FirstFailingCheckRejects :
    ∀ p ∈ [(checking false false 111 63, 1#3), (checking true false 191 63, 2#3), (checking true false 128 63, 3#3),
        (checking true true 192 65, 4#3)],
      let s := p.1
      s.grain = .micro ∧ s.host.reset = false ∧ s.step = 1#3 ∧
      (p.2 = if s.kmPresent = false then 1#3 else if ¬ (s.kmLen = 128#8 ∨ s.kmLen = 192#8) then 2#3
        else if s.dinPresent = false then 3#3 else if s.dinLen ≠ 64#8 then 4#3 else 0#3) ∧ p.2 ≠ 0#3 := by decide

theorem witness_KeySplitMovesTheWindows :
    ∀ s ∈ [checking true true 128 64, checking true true 192 64],
      s.grain = .micro ∧ s.host.reset = false ∧ s.step = 1#3 ∧ ValidOperands s.kmPresent s.dinPresent s.kmLen s.dinLen := by decide

-- n = 1, 2, 3; each clause: no pending call; ok below 3; ok at 3; fail
theorem witness_CallIssuesAndTakesItsAnswer :
    (∀ p ∈ [(at' 2 128 none .ok noRequest, 1), (at' 3 128 (some aCall) .ok noRequest, 2), (at' 4 192 (some aCall) .ok noRequest, 3),
        (at' 4 192 (some aCall) .fail noRequest, 3)],
      p.1.grain = .micro ∧ p.1.host.reset = false ∧ 1 ≤ p.2 ∧ p.2 ≤ 3 ∧ p.1.step.toNat = p.2 + 1) ∧
    (at' 2 128 none .ok noRequest).pend = none ∧ (at' 4 192 (some aCall) .ok noRequest).pend = some ⟨.encrypt, 1, 2⟩ ∧
    (at' 4 192 (some aCall) .ok noRequest).core.now = .ok ∧ (at' 4 192 (some aCall) .fail noRequest).core.now = .fail := by decide

/-- What the clauses of the whole-operation statements ask of a state: both accepting steps, both lengths, three answers. -/
abbrev AnswersCase : Prop :=
  (∀ s ∈ [ready [], readyAgain []], s.grain = .operation ∧ (s.step = 0#3 ∨ s.step = 5#3) ∧ nextAnswers 3 s.core = [.ok, .ok, .ok]) ∧
  ValidOperands true true 128 64 ∧ ValidOperands true true 192 64

/-- Each cause at a boundary value of its check. -/
abbrev ReportsCase : Prop :=
  Reports false true 128 64 1 ∧ Reports true true 129 64 2 ∧ Reports true false 192 64 3 ∧ Reports true true 192 63 4

/-- A failure at each call. -/
abbrev FailsCase : Prop :=
  nextAnswers 1 (ready [.fail]).core = List.replicate 0 .ok ++ [.fail] ∧
  nextAnswers 2 (ready [.ok, .fail]).core = List.replicate 1 .ok ++ [.fail] ∧
  nextAnswers 3 (ready [.ok, .ok, .fail]).core = List.replicate 2 .ok ++ [.fail]

theorem answers_case : AnswersCase := by decide
theorem reports_case : ReportsCase := ⟨by decide, by decide, by decide, by decide⟩
theorem fails_case : FailsCase := by decide

theorem witness_EncryptOperation : AnswersCase ∧ ReportsCase ∧ FailsCase := ⟨answers_case, reports_case, fails_case⟩
theorem witness_DecryptOperation : AnswersCase ∧ ReportsCase ∧ FailsCase := ⟨answers_case, reports_case, fails_case⟩
theorem witness_FourFormsComplete : AnswersCase := answers_case
theorem witness_OperationsAsSeenAtThePorts : AnswersCase ∧ ReportsCase ∧ FailsCase := ⟨answers_case, reports_case, fails_case⟩
theorem witness_CallOrderForAnyCore : AnswersCase := answers_case

theorem witness_OperationWaitsForASilentCore :
    nextAnswers 1 (ready [.silent]).core = List.replicate 0 .ok ++ [.silent] ∧
    nextAnswers 2 (ready [.ok, .silent]).core = List.replicate 1 .ok ++ [.silent] ∧
    nextAnswers 3 (ready [.ok, .ok, .silent]).core = List.replicate 2 .ok ++ [.silent] ∧
    ValidOperands Instr.encrypt2K.header.kmPresent Instr.encrypt2K.header.dinPresent Instr.encrypt2K.header.kmLen
      Instr.encrypt2K.header.dinLen ∧ (ready [.silent]).grain = .operation ∧ (ready [.silent]).step = 0#3 := by decide

-- an accept, a resumed call, the block at rest, a step that finds the core silent, a reset with STEP 7
theorem witness_FusedStepIsSomeStepsOfTheBlock :
    ∀ s ∈ [readyAgain [.ok, .fail], { at' 3 128 (some aCall) .ok aRequest with grain := .operation, hostNext := [aReset] },
        { at' 0 128 none .ok noRequest with grain := .operation }, { at' 4 192 (some aCall) .silent noRequest with grain := .operation },
        { at' 7 192 none .ok aReset with grain := .operation }],
      s.grain = .operation ∧ (s.host.reset = true ∨ s.step.toNat ≤ 5) := by decide

-- each clause with q = 0 and q = 1: the last call, all three calls, a failure at call 2, silence at call 2 and silence again at call 3
theorem witness_WaitingOperationResumes :
    (ready []).grain = .operation ∧ aRequest.reset = false ∧
    nextAnswers 1 ⟨[], .ok⟩ = List.replicate 0 .silent ++ List.replicate 1 .ok ∧
    nextAnswers 4 ⟨[.silent], .ok⟩ = List.replicate 1 .silent ++ List.replicate 3 .ok ∧
    nextAnswers 2 ⟨[.ok, .fail], .ok⟩ = List.replicate 0 .silent ++ List.replicate 1 .ok ++ [.fail] ∧
    nextAnswers 2 ⟨[.silent], .fail⟩ = List.replicate 1 .silent ++ List.replicate 0 .ok ++ [.fail] ∧
    nextAnswers 2 ⟨[.ok, .silent], .ok⟩ = List.replicate 0 .silent ++ List.replicate 1 .ok ++ [.silent] ∧
    nextAnswers 2 ⟨[.silent, .silent], .ok⟩ = List.replicate 1 .silent ++ List.replicate 0 .ok ++ [.silent] := by decide

theorem witness_ResetGivesTheSixValues : (at' 6 128 (some aCall) .ok aReset).host.reset = true := by decide

theorem witness_ResetAbandonsTheOperation : (at' 3 128 (some aCall) .ok aReset).host.reset = true ∧
    ∀ w ∈ [noRequest, aReset], w.req = false := by decide

theorem witness_BusyBlockIgnoresRequests :
    (at' 5 128 none .ok aRequest).grain = .micro ∧ aRequest.reset = false ∧ aRequest.req = true ∧ noRequest.reset = false ∧
    ∀ st ∈ [1#3, 2#3, 3#3, 4#3], let s := at' st 128 none .ok noRequest
      s.step = 1#3 ∨ s.step = 2#3 ∨ s.step = 3#3 ∨ s.step = 4#3 := by decide

/-- A block that has accepted `ENCRYPT.3K` has the invariant, and so has it in `CALL1`. -/
theorem accepted_invariant : Invariant { ready [] with step := 1#3 } := by
  refine ⟨by decide, by decide, by decide, fun _ => rfl, ?_, fun _ => rfl, ?_, ?_, ?_, ?_⟩ <;> intro h <;> simp [ready, presents, State.reset] at h ⊢

theorem call1_invariant : Invariant { at' 2 192 none .ok noRequest with
    k1 := 0x1111111111111111, k2 := 0x2222222222222222, k3 := 0x4444444444444444, mode := .threeKey } := by
  refine ⟨by decide, by decide, by decide, fun _ => rfl, ?_, fun _ => rfl, ?_, ?_, ?_, ?_⟩
  · intro call h; cases h
  · intro _
    exact ⟨by decide, by decide, by decide, by decide, by decide, rfl, rfl⟩
  all_goals (intro h; exact absurd h (by decide))

theorem witness_ResponseIsStable : (readyAgain []).step = 5#3 ∧ Quiet noRequest ∧ busy { ready [] with step := 1#3 } = true ∧
    Invariant { ready [] with step := 1#3 } := ⟨rfl, by decide, rfl, accepted_invariant⟩

theorem witness_ResponseFields : (readyAgain []).step = 5#3 ∧ ({ readyAgain [] with doutValid := true } : State).doutValid = true := by decide

theorem witness_SilentCoreHangsTheBlock :
    let s : State := { at' 4 128 (some aCall) .ok noRequest with core := ⟨[], .silent⟩, hostNext := [aRequest] }
    s.step = 4#3 ∧ s.pend ≠ none ∧ s.core = ⟨[], .silent⟩ ∧ s.host.reset = false ∧ ∀ w ∈ s.hostNext, w.reset = false := by decide

theorem witness_StatusAndCauseStayLegal : LegalPair (readyAgain []).status (readyAgain []).cause ∧ ∃ t, step (readyAgain []) = .next t :=
  ⟨by decide, _, rfl⟩

theorem witness_DoutValidExactlyWhenOk : ((ready []).doutValid = true ↔ ((ready []).step = 5#3 ∧ (ready []).status = 0#2)) ∧
    ∃ t, step (ready []) = .next t := ⟨by decide, _, rfl⟩

theorem witness_EveryStepKeepsTheInvariant :
    (Invariant { ready [] with step := 1#3 } ∧ ∃ t, step { ready [] with step := 1#3 } = .next t) ∧
    Invariant { at' 2 192 none .ok noRequest with
      k1 := 0x1111111111111111, k2 := 0x2222222222222222, k3 := 0x4444444444444444, mode := .threeKey } :=
  ⟨⟨accepted_invariant, _, rfl⟩, call1_invariant⟩

theorem witness_InvariantStatesNeverStop :
    Invariant { ready [] with step := 1#3 } ∧ Invariant { at' 2 192 none .ok noRequest with
      k1 := 0x1111111111111111, k2 := 0x2222222222222222, k3 := 0x4444444444444444, mode := .threeKey } :=
  ⟨accepted_invariant, call1_invariant⟩

theorem witness_CopyBitsCopiesItsRange : 128 + 64 ≤ 192 ∧ 2 + 3 ≤ 8 ∧ ¬ (2 ≤ 5 ∧ 5 < 2 + 3) ∧ ¬ (2 ≤ 1 ∧ 1 < 2 + 3) := by decide

theorem witness_ParityPositionsAreIgnored :
    ∀ i, i < 64 → i % 8 ≠ 7 → (0x0123456789ABCDEF#64).getMsbD i = (0x0022446688AACCEE#64).getMsbD i := by decide

theorem witness_RoundTrip :
    ∀ s ∈ [ready [], readyAgain []],
      s.grain = .operation ∧ (s.step = 0#3 ∨ s.step = 5#3) ∧ nextAnswers 6 s.core = List.replicate 6 .ok := by decide

theorem witness_TwoKeyAliasing : (readyAgain [.ok, .fail]).grain = .operation ∧ (readyAgain [.ok, .fail]).step = 5#3 := by decide

-- K1 = K2 and K2 = K3, one of them only up to parity
theorem witness_EqualSubKeysCollapse :
    AgreeOffParity (keyOf 192 (0x101010101010101011111111111111114444444444444444) .k1)
      (keyOf 192 (0x101010101010101011111111111111114444444444444444) .k2) ∧
    AgreeOffParity (keyOf 128 (0x11111111111111111111111111111111AAAAAAAAAAAAAAAA) .k2)
      (keyOf 128 (0x11111111111111111111111111111111AAAAAAAAAAAAAAAA) .k3) ∧
    nextAnswers 3 (ready []).core = [.ok, .ok, .ok] := by decide

theorem witness_NoStateCrossesOperations : (ready [.ok]).grain = .operation ∧ (readyAgain [.ok]).grain = .operation ∧
    (ready [.ok]).step = 0#3 ∧ (readyAgain [.ok]).step = 5#3 ∧ (ready [.ok]).host = (readyAgain [.ok]).host ∧
    (ready [.ok]).core = (readyAgain [.ok]).core ∧ ready [.ok] ≠ readyAgain [.ok] := by decide

theorem witness_ParityOfKeyMaterialDoesNotMatter :
    (ready []).grain = .operation ∧ AgreeOffParity (ready []).host.km 0x101010101010101023232323232323234545454545454545 := by decide +kernel

theorem witness_UnreadBitsDoNotMatter :
    Instr.decrypt2K.header.kmLen = 128#8 ∧
    (∀ j, j < 128 → (ready []).host.km.getMsbD j = (0x11111111111111112222222222222222FFFFFFFFFFFFFFFF#192).getMsbD j) ∧
    (∀ p ∈ [(Instr.encrypt false true 192 64, 1#3), (.decrypt true true 0 64, 2#3), (.decrypt true false 128 64, 3#3),
        (.encrypt true true 192 255, 4#3)],
      Reports p.1.header.kmPresent p.1.header.dinPresent p.1.header.kmLen p.1.header.dinLen p.2) := by decide

theorem witness_TraceShape :
    (ValidOperands Instr.decrypt3K.header.kmPresent Instr.decrypt3K.header.dinPresent Instr.decrypt3K.header.kmLen
      Instr.decrypt3K.header.dinLen) ∧ nextAnswers 3 (ready []).core = [.ok, .ok, .ok] ∧
    nextAnswers 6 (ready []).core = List.replicate 6 .ok ∧
    Reports (Instr.encrypt false false 0 0).header.kmPresent (Instr.encrypt false false 0 0).header.dinPresent
      (Instr.encrypt false false 0 0).header.kmLen (Instr.encrypt false false 0 0).header.dinLen 1#3 := by decide

end Sys2Proof.Tests
end

section
/-! PROOFS. The state family (10_state.md): the invariant and its step, the step table and the frame of one step of R24, the fused step
against single steps, and whole operations, which end by what `DES_CORE` answers. -/

namespace Sys2Proof.Proofs

open Sys2Proof.Machine Sys2Proof.Safety

/-! ## One step of the machine, by R24's steps -/

section Step

variable {s t : State}

@[simp] theorem tick_host (c : DesCore) (s : State) : (tick c s).host = s.host :=
  (tick_outside c s).1

@[simp] theorem tick_hostNext (c : DesCore) (s : State) : (tick c s).hostNext = s.hostNext :=
  (tick_outside c s).2.1

@[simp] theorem tick_grain (c : DesCore) (s : State) : (tick c s).grain = s.grain :=
  (tick_outside c s).2.2.1

theorem not_stuck_of_le_five (h : s.step.toNat ≤ 5) : stuck s = false := by
  cases hs : stuck s with
  | false => rfl
  | true => rcases stuck_iff.mp hs with e | e <;> simp [e] at h

theorem not_accepting_of_stuck (h : stuck s = true) : accepting s = false := by
  rcases stuck_iff.mp h with e | e <;> simp [accepting, e]

theorem not_accepting_of_busy (h : busy s = true) : accepting s = false := by
  rcases busy_iff.mp h with e | e | e | e <;> simp [accepting, e]

theorem not_stuck_of_busy (h : busy s = true) : stuck s = false := by
  rcases busy_iff.mp h with e | e | e | e <;> simp [stuck, e]

theorem step_of_reset (hr : s.host.reset = true) : step s = .next (hostMoves (resetEntry s)) := by
  simp [step, hr]

theorem step_of_request (hr : s.host.reset = false) (hq : s.host.req = true) :
    step s = onNext hostMoves (exec (decode s.host.hdr) s) := by
  simp [step, hr, hq]

theorem step_of_accept (hr : s.host.reset = false) (hq : s.host.req = true) (ha : accepting s = true) :
    step s = .next (hostMoves (goOn desCore (accept (decode s.host.hdr).header s))) := by
  rw [step_of_request hr hq, exec_eq_request, request_of_accepting ha]
  rfl

theorem step_of_block (hr : s.host.reset = false) (hq : s.host.req = false ∨ accepting s = false)
    (hs : stuck s = false) : step s = .next (hostMoves (goOn desCore (tick desCore s))) := by
  have hb := blockMove_of_not_stuck (c := desCore) hs
  cases h : s.host.req with
  | false => simp [step, hr, h, hb, onNext]
  | true =>
    have ha : accepting s = false := hq.resolve_left (by simp [h])
    rw [step_of_request hr h, exec_eq_request, request_of_not_accepting ha, hb]
    rfl

theorem exec_of_stuck (h : stuck s = true) (i : Instr) : exec i s = .fault .stuckStep := by
  rw [exec_eq_request, request_of_not_accepting (not_accepting_of_stuck h)]
  simp [blockMove, h]

theorem step_of_stuck (hr : s.host.reset = false) (h : stuck s = true) : step s = .fault .stuckStep := by
  rcases step_cases s with ⟨hr', _⟩ | ⟨_, _, ha, _⟩ | ⟨_, _, hs, _⟩ | ⟨_, _, e⟩
  · exact absurd (hr'.symm.trans hr) (by decide)
  · exact absurd (ha.symm.trans (not_accepting_of_stuck h)) (by decide)
  · exact absurd (h.symm.trans hs) (by decide)
  · exact e

/-- A step stops in a `STEP` without a name alone (R21). -/
theorem step_next_of_not_stuck (h : stuck s = false) : ∃ t, step s = .next t := by
  rcases step_cases s with ⟨_, e⟩ | ⟨_, _, _, e⟩ | ⟨_, _, _, e⟩ | ⟨_, hs, _⟩
  · exact ⟨_, e⟩
  · exact ⟨_, e⟩
  · exact ⟨_, e⟩
  · exact absurd (hs.symm.trans h) (by decide)

/-- At grain `micro` and without reset a step is the accept of the presented request or the block's own step (R24). -/
theorem step_micro_cases (hg : s.grain = .micro) (hr : s.host.reset = false) (h : step s = .next t) :
    (∃ f, s.host.req = true ∧ (s.step = 0#3 ∨ s.step = 5#3) ∧ t = hostMoves (accept f s)) ∨
    (¬ ((s.step = 0#3 ∨ s.step = 5#3) ∧ s.host.req = true) ∧ t = hostMoves (tick desCore s)) := by
  rcases step_cases s with ⟨hr', e⟩ | ⟨_, hq, ha, e⟩ | ⟨_, hq, _, e⟩ | ⟨_, _, e⟩ <;> rw [e] at h <;> cases h
  · exact absurd (hr'.symm.trans hr) (by decide)
  · exact .inl ⟨_, hq, accepting_iff.mp ha, by rw [goOn_micro (s := accept _ s) hg]⟩
  · have hgt : (tick desCore s).grain = .micro := (tick_grain desCore s).trans hg
    refine .inr ⟨fun ⟨h05, hq'⟩ => ?_, by rw [goOn_micro hgt]⟩
    have ha := accepting_iff.mpr h05
    simp [hq', ha] at hq

end Step

/-- `STEP` of call `n + 1` (R20, R99). -/
theorem toNat_callStep {n : Nat} (hn : n < 3) : (BitVec.ofNat 3 (n + 2)).toNat = n + 2 := by
  rw [BitVec.toNat_ofNat]
  omega

/-! ## The calls of an operation, one by one (R97 to R100) -/

section Calls

variable (c : DesCore) (op : Op) (key : KeyIx → Block) (x : Block)

/-- Call number `n + 1` of an operation whose working register holds `b` (R100). -/
def callOf (b : Block) (n : Nat) : Call :=
  ⟨(callRow op (n + 1)).1, key (callRow op (n + 1)).2, b⟩

/-- The trace entry of a call that `c` has answered (R99). -/
def recordOf (call : Call) : CallRecord :=
  ⟨call.dir, call.key, call.blk, c.answer call⟩

/-- What the working register of an operation holds after `n` answered calls. -/
abbrev workedOn (n : Nat) : Block :=
  workingOf (callsOf c op key x) x n

/-- Entry `n` of an operation's calls is R100's call `n + 1` on what the calls before it left in `T`. -/
theorem callsOf_getElem? {n : Nat} (hn : n < 3) :
    (callsOf c op key x)[n]? = some (recordOf c (callOf op key (workedOn c op key x n) n)) := by
  rcases op with _ | _ <;> obtain rfl | rfl | rfl : n = 0 ∨ n = 1 ∨ n = 2 := by omega
  all_goals rfl

/-- One more answered call adds its record to the trace. -/
theorem callsOf_take_succ {n : Nat} (hn : n < 3) :
    (callsOf c op key x).take (n + 1) =
      (callsOf c op key x).take n ++ [recordOf c (callOf op key (workedOn c op key x n) n)] := by
  rw [List.take_add_one, callsOf_getElem? c op key x hn]
  rfl

/-- One more answered call leaves its result in the working register. -/
theorem workedOn_succ {n : Nat} (hn : n < 3) :
    workedOn c op key x (n + 1) = c.answer (callOf op key (workedOn c op key x n) n) := by
  simp [workedOn, workingOf, callsOf_take_succ c op key x hn, recordOf]

/-- The result of an operation is what its third call leaves in the working register (R97, R98). -/
theorem resultOf_eq_workedOn : resultOf c op key x = workedOn c op key x 3 := by
  cases op <;> rfl

end Calls

/-! ## What depends on the block alone -/

section Block

variable {n : Nat} {s : State}

/-- `InOperation` reads the latch, the sub-keys, `MODE`, `T` and `TRACE` alone. -/
theorem inOperation_frame (h : InOperation n s) (step : BitVec 3) (status : BitVec 2) (cause : BitVec 3) (dout : Block)
    (doutValid : Bool) (pend : Option Call) (host : HostWires) (hostNext : List HostWires) (core : CoreScript)
    (grain : Grain) (resets : Nat) :
    InOperation n { s with
      step := step, status := status, cause := cause, dout := dout, doutValid := doutValid, pend := pend, host := host,
      hostNext := hostNext, core := core, grain := grain, resets := resets } :=
  { h with }

/-- The invariant reads nothing of the agents outside the block, of the grain or of the reset count. -/
theorem invariant_frame (h : Invariant s) (host : HostWires) (hostNext : List HostWires) (core : CoreScript)
    (grain : Grain) (resets : Nat) :
    Invariant { s with host := host, hostNext := hostNext, core := core, grain := grain, resets := resets } where
  stepLegal := h.stepLegal
  pair := h.pair
  valid := h.valid
  pendCalling := h.pendCalling
  pendNext := h.pendNext
  traceEmpty := h.traceEmpty
  calling hc := inOperation_frame (h.calling hc) ..
  doneOk h5 h0 := ⟨inOperation_frame (h.doneOk h5 h0).1 .., (h.doneOk h5 h0).2⟩
  doneRejected := h.doneRejected
  doneAborted h5 h2 :=
    let ⟨n, hn, hin⟩ := h.doneAborted h5 h2
    ⟨n, hn, inOperation_frame hin ..⟩

theorem latchedCalls_getElem? (hn : n < 3) :
    (latchedCalls s)[n]? = some (recordOf desCore (callOf s.op (keyOf s.kmLen s.km)
      (workingOf (latchedCalls s) s.din n) n)) :=
  callsOf_getElem? desCore s.op (keyOf s.kmLen s.km) s.din hn

theorem subKey_of_inOperation (h : InOperation n s) (j : KeyIx) : s.subKey j = keyOf s.kmLen s.km j := by
  cases j
  · exact h.key1
  · exact h.key2
  · exact h.key3

/-- The call that the block issues is the operation's next one (R99, R100). -/
theorem nextCall_of_inOperation (h : InOperation n s) (hs : s.step.toNat = n + 2) :
    nextCall s = callOf s.op (keyOf s.kmLen s.km) s.t n := by
  simp [nextCall, callNumber, hs, callOf, subKey_of_inOperation h]

end Block

/-! ## The invariant -/

/-- The causes that VALIDATE reports are 1 to 4 (R122). -/
theorem legalPair_of_reports {kp dp : Bool} {kl dl : LenField} {x : BitVec 3} (h : Reports kp dp kl dl x) :
    LegalPair 1#2 x := by
  refine .inr (.inl ⟨rfl, ?_⟩)
  rcases h with ⟨_, e⟩ | ⟨_, _, e⟩ | ⟨_, _, _, e⟩ | ⟨_, _, _, _, e⟩ <;> simp [e]

section Invariant

variable {n : Nat} {s : State}

/-! The invariant phase by phase: before the calls, in the calls, after them. -/

theorem invariant_of_before (h : s.step = 0#3 ∨ s.step = 1#3) (pair : LegalPair s.status s.cause)
    (valid : s.doutValid = false) (pend : s.pend = none) (trace : s.trace = []) : Invariant s := by
  rcases h with h | h <;> exact
    { stepLegal := by simp [h]
      pair := pair
      valid := by simp [valid, h]
      pendCalling := fun _ => pend
      pendNext := by simp [pend]
      traceEmpty := fun _ => trace
      calling := by simp [h]
      doneOk := by simp [h]
      doneRejected := by simp [h]
      doneAborted := by simp [h] }

theorem invariant_of_inCall (hn : n < 3) (h : s.step = BitVec.ofNat 3 (n + 2)) (pair : LegalPair s.status s.cause)
    (valid : s.doutValid = false) (hin : InOperation n s)
    (pend : ∀ call, s.pend = some call → call = callOf s.op (keyOf s.kmLen s.km) s.t n) : Invariant s := by
  have hstep : s.step.toNat = n + 2 := by rw [h, toNat_callStep hn]
  have h5 : s.step ≠ 5#3 := fun e => by
    have hfive : 5 = n + 2 := by rwa [e] at hstep
    omega
  exact
    { stepLegal := by omega
      pair := pair
      valid := by simp [valid, h5]
      pendCalling := by simp [hstep, h5]
      pendNext := fun call hp => by
        rw [hstep, Nat.add_sub_cancel, latchedCalls_getElem? hn, ← hin.work, pend call hp]
        rfl
      traceEmpty := by simp [hstep]
      calling := fun _ => by rw [hstep]; exact hin
      doneOk := fun e => absurd e h5
      doneRejected := fun e => absurd e h5
      doneAborted := fun e => absurd e h5 }

theorem invariant_of_done (h : s.step = 5#3) (pair : LegalPair s.status s.cause)
    (valid : s.doutValid = true ↔ s.status = 0#2) (pend : s.pend = none)
    (ok : s.status = 0#2 → InOperation 3 s ∧ s.dout = resultOf desCore s.op (keyOf s.kmLen s.km) s.din)
    (rejected : s.status = 1#2 → s.trace = [] ∧ Reports s.kmPresent s.dinPresent s.kmLen s.dinLen s.cause)
    (aborted : s.status = 2#2 → ∃ n, n < 3 ∧ InOperation n s) : Invariant s where
  stepLegal := by simp [h]
  pair := pair
  valid := by simp [valid, h]
  pendCalling _ := pend
  pendNext := by simp [pend]
  traceEmpty := by simp [h]
  calling := by simp [h]
  doneOk _ := ok
  doneRejected _ := rejected
  doneAborted _ := aborted

/-- What the invariant says of a state in `CALL1` to `CALL3`. -/
theorem inCall_of_invariant (h : Invariant s) (hc : calling s = true) :
    ∃ n, n < 3 ∧ s.step = BitVec.ofNat 3 (n + 2) ∧ s.doutValid = false ∧ InOperation n s ∧
      ∀ call, s.pend = some call → call = callOf s.op (keyOf s.kmLen s.km) s.t n := by
  have hin := h.calling (calling_iff.mp hc)
  have hvalid : s.doutValid = false := by
    rcases calling_iff.mp hc with e | e | e <;> simpa [e] using h.valid
  obtain ⟨n, hn, hstep, hsub⟩ : ∃ n, n < 3 ∧ s.step = BitVec.ofNat 3 (n + 2) ∧ s.step.toNat - 2 = n := by
    rcases calling_iff.mp hc with e | e | e
    · exact ⟨0, by decide, e, by rw [e]; rfl⟩
    · exact ⟨1, by decide, e, by rw [e]; rfl⟩
    · exact ⟨2, by decide, e, by rw [e]; rfl⟩
  rw [hsub] at hin
  refine ⟨n, hn, hstep, hvalid, hin, fun call hp => ?_⟩
  have hnext := h.pendNext call hp
  rw [hsub, latchedCalls_getElem? hn, ← hin.work] at hnext
  exact (Option.some.inj hnext).symm

/-- KEYSPLIT of a valid request starts its operation, with no call answered (R80 to R84, R88). -/
theorem inOperation_keySplit (hv : ValidOperands s.kmPresent s.dinPresent s.kmLen s.dinLen) (ht : s.trace = []) :
    InOperation 0 (keySplit s) where
  valid := hv
  key1 := subKey1_eq s.km
  key2 := subKey2_eq s.km
  key3 := subKey3_eq s.kmLen s.km
  tag := modeOf_eq s.kmLen
  trace := ht
  work := rfl

/-- Taking the answer to the operation's next call adds one to its answered calls (R99). -/
theorem inOperation_takeAnswer (h : InOperation n s) (hn : n < 3) {call : Call}
    (hc : call = callOf s.op (keyOf s.kmLen s.km) s.t n) :
    InOperation (n + 1) (takeAnswer call (desCore.answer call) s) where
  valid := h.valid
  key1 := h.key1
  key2 := h.key2
  key3 := h.key3
  tag := h.tag
  trace := by
    rw [hc, h.work]
    exact (congrArg (· ++ _) h.trace).trans (callsOf_take_succ desCore s.op (keyOf s.kmLen s.km) s.din hn).symm
  work := by
    rw [hc, h.work]
    exact (workedOn_succ desCore s.op (keyOf s.kmLen s.km) s.din hn).symm

/-! Each of the block's moves keeps the invariant. -/

theorem invariant_resetEntry (s : State) : Invariant (resetEntry s) :=
  invariant_of_before (.inl rfl) (.inl ⟨rfl, rfl⟩) rfl rfl rfl

theorem invariant_accept (h : Invariant s) (f : Header) : Invariant (accept f s) :=
  invariant_of_before (.inr rfl) h.pair rfl rfl rfl

theorem invariant_hostMoves (h : Invariant s) : Invariant (hostMoves s) :=
  invariant_frame h ..

theorem invariant_coreMoves (h : Invariant s) : Invariant (coreMoves s) :=
  invariant_frame h ..

theorem invariant_raiseContractViolation (h : Invariant s) (h1 : s.step = 1#3) {x : BitVec 3}
    (hx : Reports s.kmPresent s.dinPresent s.kmLen s.dinLen x) : Invariant (raiseContractViolation x s) :=
  invariant_of_done rfl (legalPair_of_reports hx) (by simp) (h.pendCalling (by simp [h1])) (by simp)
    (fun _ => ⟨h.traceEmpty (by simp [h1]), hx⟩) (by simp)

theorem invariant_keySplit (h : Invariant s) (h1 : s.step = 1#3)
    (hv : ValidOperands s.kmPresent s.dinPresent s.kmLen s.dinLen) : Invariant (keySplit s) := by
  have hpend : s.pend = none := h.pendCalling (by simp [h1])
  have hvalid : s.doutValid = false := by simpa [h1] using h.valid
  exact invariant_of_inCall (n := 0) (by decide) rfl h.pair hvalid
    (inOperation_keySplit hv (h.traceEmpty (by simp [h1]))) (by simp [hpend])

theorem invariant_issueCall (h : Invariant s) (hc : calling s = true) : Invariant (issueCall s) := by
  obtain ⟨n, hn, hstep, hvalid, hin, -⟩ := inCall_of_invariant h hc
  have hnext : nextCall s = callOf s.op (keyOf s.kmLen s.km) s.t n :=
    nextCall_of_inOperation hin (by rw [hstep, toNat_callStep hn])
  exact invariant_of_inCall hn hstep h.pair hvalid (inOperation_frame hin ..)
    (fun call hp => (Option.some.inj hp).symm.trans hnext)

/-- The `ok` answer to call 1 or 2 (R99). -/
theorem invariant_advanceStep_takeAnswer (h : Invariant s) (hc : calling s = true) (h4 : s.step ≠ 4#3) {call : Call}
    (hp : s.pend = some call) : Invariant (advanceStep (takeAnswer call (desCore.answer call) s)) := by
  obtain ⟨n, hn, hstep, hvalid, hin, hcall⟩ := inCall_of_invariant h hc
  have hn2 : n + 1 < 3 := by
    have : n ≠ 2 := fun e => h4 (by rw [hstep, e])
    omega
  have hadv : s.step + 1#3 = BitVec.ofNat 3 (n + 1 + 2) := by
    rw [hstep, ← BitVec.ofNat_add]
  exact invariant_of_inCall hn2 hadv h.pair hvalid
    (inOperation_frame (inOperation_takeAnswer hin hn (hcall call hp)) ..) (by simp)

/-- The `ok` answer to call 3 (R99, R102). -/
theorem invariant_complete_takeAnswer (h : Invariant s) (hc : calling s = true) (h4 : s.step = 4#3) {call : Call}
    (hp : s.pend = some call) : Invariant (complete (takeAnswer call (desCore.answer call) s)) := by
  obtain ⟨n, hn, hstep, -, hin, hcall⟩ := inCall_of_invariant h hc
  obtain rfl : n = 2 := by
    obtain rfl | rfl | rfl : n = 0 ∨ n = 1 ∨ n = 2 := by omega
    all_goals simp [h4] at hstep ⊢
  have hin3 := inOperation_takeAnswer hin hn (hcall call hp)
  exact invariant_of_done rfl (.inl ⟨rfl, rfl⟩) (by simp) rfl
    (fun _ => ⟨inOperation_frame hin3 .., hin3.work.trans (resultOf_eq_workedOn ..).symm⟩) (by simp) (by simp)

theorem invariant_raiseInternalAssert (h : Invariant s) (hc : calling s = true) : Invariant (raiseInternalAssert s) := by
  obtain ⟨n, hn, -, -, hin, -⟩ := inCall_of_invariant h hc
  exact invariant_of_done rfl (.inr (.inr ⟨rfl, rfl⟩)) (by simp) rfl (by simp) (by simp)
    (fun _ => ⟨n, hn, inOperation_frame hin ..⟩)

theorem invariant_tick (h : Invariant s) : Invariant (tick desCore s) := by
  have hm := invariant_coreMoves h
  rcases tick_cases desCore s with ⟨h1, x, hx, e⟩ | ⟨h1, hv, e⟩ | ⟨hc, -, e⟩ | ⟨call, hc, hp, -, h4, e⟩ |
    ⟨call, hc, hp, -, h4, e⟩ | ⟨call, hc, -, -, e⟩ | ⟨call, -, -, -, e⟩ | ⟨-, e⟩ <;> rw [e]
  · exact invariant_raiseContractViolation h h1 hx
  · exact invariant_keySplit h h1 hv
  · exact invariant_issueCall h hc
  · exact invariant_advanceStep_takeAnswer hm hc h4 hp
  · exact invariant_complete_takeAnswer hm hc h4 hp
  · exact invariant_raiseInternalAssert hm hc
  · exact hm
  · exact h

theorem invariant_step {s t : State} (h : Invariant s) (hs : step s = .next t) : Invariant t :=
  step_keeps invariant_resetEntry (fun f _ _ h => invariant_accept h f) (fun _ => invariant_tick)
    (fun _ => invariant_hostMoves) h hs

theorem safeOutcome_step (h : Invariant s) : SafeOutcome (step s) := by
  obtain ⟨t, e⟩ := step_next_of_not_stuck (not_stuck_of_le_five h.stepLegal)
  rw [e]
  exact invariant_step h e

/-- A run from a state with the invariant never stops, and ends in one. -/
theorem safeOutcome_run (n : Nat) : ∀ s : State, Invariant s → SafeOutcome (Host.Core.run core n s) := by
  induction n with
  | zero => exact fun s h => h
  | succ n ih =>
    intro s h
    obtain ⟨t, e⟩ := step_next_of_not_stuck (not_stuck_of_le_five h.stepLegal)
    rw [run_succ n e]
    exact ih t (invariant_step h e)

theorem invariant_reset : Invariant State.reset :=
  invariant_of_before (.inl rfl) (.inl ⟨rfl, rfl⟩) rfl rfl rfl

end Invariant

/-- Settles O29: `STEP` 0 asks for empty `PEND` and `TRACE` alone. -/
theorem invariantAtReset : Obligations.InvariantAtReset :=
  invariant_reset

/-- Settles O30: each of the block's moves keeps the invariant, and so does running on. -/
theorem everyStepKeepsTheInvariant : Obligations.EveryStepKeepsTheInvariant :=
  fun _ _ => invariant_step

/-- Settles O43: a state with the invariant is not stuck. -/
theorem invariantStatesNeverStop : Obligations.InvariantStatesNeverStop :=
  fun _ => safeOutcome_step

/-- Settles O31, by induction on the length of the run. -/
theorem noRunFromResetStops : Obligations.NoRunFromResetStops :=
  fun n _ _ _ _ => safeOutcome_run n _ (invariant_frame invariant_reset ..)

/-! ## What each kind of step writes -/

section Writes

variable {s : State}

theorem ne_done_of_calling (h : calling s = true) : s.step ≠ 5#3 := by
  rcases calling_iff.mp h with e | e | e <;> simp [e]

/-- The block's own step writes each register in the `STEP`s of R13's table alone. -/
theorem tick_writes (s : State) :
    let t := tick desCore s
    (s.step ≠ 1#3 → t.k1 = s.k1 ∧ t.k2 = s.k2 ∧ t.k3 = s.k3 ∧ t.mode = s.mode) ∧
    (¬ (s.step = 1#3 ∨ s.step = 2#3 ∨ s.step = 3#3 ∨ s.step = 4#3) → t.t = s.t) ∧
    (¬ (t.step = 5#3 ∧ s.step ≠ 5#3) → t.status = s.status ∧ t.cause = s.cause ∧ t.doutValid = s.doutValid) ∧
    (s.step ≠ 4#3 → t.dout = s.dout) ∧
    (¬ (s.step = 2#3 ∨ s.step = 3#3 ∨ s.step = 4#3) → t.pend = s.pend ∧ t.trace = s.trace) := by
  rcases tick_cases desCore s with ⟨h1, x, -, e⟩ | ⟨h1, -, e⟩ | ⟨hc, -, e⟩ | ⟨call, hc, -, -, h4, e⟩ |
    ⟨call, -, -, -, h4, e⟩ | ⟨call, hc, -, -, e⟩ | ⟨call, hc, -, -, e⟩ | ⟨-, e⟩ <;> simp only [e]
  · simp [h1]
  · simp [h1]
  · simp [calling_iff.mp hc]
  · simp [calling_iff.mp hc]
  · simp [h4]
  · simp [calling_iff.mp hc, ne_done_of_calling hc]
  · simp
  · simp

end Writes

/-- Settles O10: an accept writes the latch, `DOUT_VALID`, `PEND` and `TRACE`; the rest is `tick_writes`. -/
theorem onlyTheNamedStepsWrite : Obligations.OnlyTheNamedStepsWrite := by
  intro s t hg hr h
  rcases step_micro_cases hg hr h with ⟨f, hq, h05, rfl⟩ | ⟨hna, rfl⟩
  · simp [hq, h05]
  · obtain ⟨_, _, hgrain, hresets, hop, hkp, hdp, hkl, hdl, hkm, hdin⟩ := tick_outside desCore s
    obtain ⟨hkeys, ht, hdone, hdout, hcall⟩ := tick_writes s
    exact ⟨fun _ => ⟨hop, hkp, hdp, hkl, hdl, hkm, hdin⟩, hkeys, ht, fun h5 => ⟨(hdone h5).1, (hdone h5).2.1⟩, hdout,
      fun h5 _ => (hdone h5).2.2, fun hc _ => hcall hc, hgrain, hresets⟩

/-- Settles O7: `exec` is what `step` applies, and the host's wires move on. -/
theorem stepExecutesTheDecodedHeader : Obligations.StepExecutesTheDecodedHeader := by
  rintro s i hr hq rfl
  rw [step_of_request hr hq]
  cases exec (decode s.host.hdr) s <;> rfl

/-- Settles O21: a reset step is `resetEntry`, after which the host's wires move on. -/
theorem resetGivesTheSixValues : Obligations.ResetGivesTheSixValues :=
  ⟨⟨rfl, rfl, rfl, rfl, rfl, rfl⟩,
    fun _ hr => ⟨_, step_of_reset hr, rfl, rfl, rfl, rfl, rfl, rfl, rfl, rfl, rfl, rfl⟩⟩

/-! ## How the block's own step moves `STEP` -/

section Tick

variable {c : DesCore} {s : State}

theorem tick_step_of_check (h : s.step = 1#3) :
    (ValidOperands s.kmPresent s.dinPresent s.kmLen s.dinLen → (tick c s).step = 2#3) ∧
    (¬ ValidOperands s.kmPresent s.dinPresent s.kmLen s.dinLen → (tick c s).step = 5#3) := by
  rw [tick_check h]
  refine ⟨fun hv => by rw [check_of_valid hv]; rfl, fun hv => ?_⟩
  obtain ⟨x, hx⟩ := Option.ne_none_iff_exists'.mp (mt (violation_eq_none_iff ..).mp hv)
  rw [check_of_violation hx]
  rfl

/-- The next `STEP` of `CALL1` to `CALL3`, where `STEP` does not overflow. -/
theorem toNat_step_succ_of_calling (h : calling s = true) : (s.step + 1#3).toNat = s.step.toNat + 1 := by
  rcases calling_iff.mp h with e | e | e <;> rw [e] <;> rfl

theorem tick_step_of_calling (h : calling s = true) :
    (s.pend = none → (tick c s).step = s.step) ∧
    (s.pend ≠ none → (s.core.now = .ok → (tick c s).step.toNat = s.step.toNat + 1) ∧
      (s.core.now = .fail → (tick c s).step = 5#3) ∧ (s.core.now = .silent → (tick c s).step = s.step)) := by
  refine ⟨fun hp => by rw [tick_issue h hp]; rfl, fun hp => ?_⟩
  obtain ⟨call, hp⟩ := Option.ne_none_iff_exists'.mp hp
  rw [tick_poll h hp]
  refine ⟨fun hn => ?_, fun hn => by simp [pollCall, hn], fun hn => by simp [pollCall, hn]⟩
  by_cases h4 : s.step = 4#3
  · simp [pollCall, hn, afterAnswer, h4]
  · simp [pollCall, hn, afterAnswer, h4, toNat_step_succ_of_calling h]

theorem tick_step_le_five (h : s.step.toNat ≤ 5) : (tick c s).step.toNat ≤ 5 := by
  rcases tick_cases c s with ⟨-, x, -, e⟩ | ⟨-, -, e⟩ | ⟨-, -, e⟩ | ⟨call, hc, -, -, h4, e⟩ |
    ⟨call, -, -, -, -, e⟩ | ⟨call, -, -, -, e⟩ | ⟨call, -, -, -, e⟩ | ⟨-, e⟩ <;> rw [e]
  · simp
  · simp
  · exact h
  · have hnext : (s.step + 1#3).toNat ≤ 5 := by
      rw [toNat_step_succ_of_calling hc]
      rcases calling_iff.mp hc with e | e | e <;> simp [e]
    exact hnext
  · simp
  · simp
  · exact h
  · exact h

end Tick

/-- Settles O8: an accept makes `STEP` 1; the block's own step moves it by its `STEP`, the operands and the core's answer. -/
theorem sequencerFollowsItsTable : Obligations.SequencerFollowsItsTable := by
  intro s hg hr hle
  obtain ⟨t, e⟩ := step_next_of_not_stuck (not_stuck_of_le_five hle)
  refine ⟨t, e, ?_⟩
  rcases step_micro_cases hg hr e with ⟨f, hq, h05, rfl⟩ | ⟨hna, rfl⟩
  · rcases h05 with h | h <;> simp [h, hq]
  · refine ⟨fun h05 => ?_, tick_step_of_check, fun hc => tick_step_of_calling (calling_iff.mpr hc)⟩
    have hq : s.host.req = false := by simpa [h05] using hna
    have hb : busy s = false := by rcases h05 with h | h <;> simp [busy, calling, h]
    simp [tick_of_not_busy hb, hq]

/-- Settles O9: a state with `STEP` 6 or 7 is `stuck`; no move of the block leads from `STEP` at most 5 beyond. -/
theorem unnamedStepsAreStuck : Obligations.UnnamedStepsAreStuck :=
  ⟨fun _ h => ⟨exec_of_stuck (stuck_iff.mpr h), fun hr => step_of_stuck hr (stuck_iff.mpr h)⟩, by decide,
    fun _ _ h hs => step_keeps (P := fun s => s.step.toNat ≤ 5) (by simp) (by simp) (fun _ => tick_step_le_five)
      (fun _ h => h) h hs⟩

/-! ## `STATUS`, `CAUSE` and `DOUT_VALID` -/

theorem legalPair_tick {s : State} (h : LegalPair s.status s.cause) :
    LegalPair (tick desCore s).status (tick desCore s).cause := by
  rcases tick_cases desCore s with ⟨-, x, hx, e⟩ | ⟨-, -, e⟩ | ⟨-, -, e⟩ | ⟨call, -, -, -, -, e⟩ |
    ⟨call, -, -, -, -, e⟩ | ⟨call, -, -, -, e⟩ | ⟨call, -, -, -, e⟩ | ⟨-, e⟩ <;> rw [e]
  · exact legalPair_of_reports hx
  · exact h
  · exact h
  · exact h
  · exact .inl ⟨rfl, rfl⟩
  · exact .inr (.inr ⟨rfl, rfl⟩)
  · exact h
  · exact h

/-- Settles O27: only the two faults, completion and reset write the pair, each a legal one. -/
theorem statusAndCauseStayLegal : Obligations.StatusAndCauseStayLegal := fun _ _ h hs =>
  step_keeps (P := fun s => LegalPair s.status s.cause) (fun _ => .inl ⟨rfl, rfl⟩) (fun _ _ _ h => h)
    (fun _ => legalPair_tick) (fun _ h => h) h hs

/-- `DOUT_VALID` = 1 exactly when `STEP` = 5 and `STATUS` = OK (R23). -/
def ValidIffOk (s : State) : Prop :=
  s.doutValid = true ↔ (s.step = 5#3 ∧ s.status = 0#2)

theorem validIffOk_tick {s : State} (h : ValidIffOk s) : ValidIffOk (tick desCore s) := by
  have hbusy (h5 : s.step ≠ 5#3) : s.doutValid = false := by
    simpa [h5] using show s.doutValid = true ↔ (s.step = 5#3 ∧ s.status = 0#2) from h
  rcases tick_cases desCore s with ⟨-, x, -, e⟩ | ⟨h1, -, e⟩ | ⟨hc, -, e⟩ | ⟨call, hc, -, -, h4, e⟩ |
    ⟨call, -, -, -, -, e⟩ | ⟨call, -, -, -, e⟩ | ⟨call, -, -, -, e⟩ | ⟨-, e⟩ <;> rw [e]
  · simp [ValidIffOk]
  · simp [ValidIffOk, hbusy, h1]
  · exact h
  · have hnext : s.step + 1#3 ≠ 5#3 := by
      rcases calling_iff.mp hc with e | e | e <;> simp [e] at h4 ⊢
    simp [ValidIffOk, hbusy (ne_done_of_calling hc), hnext]
  · simp [ValidIffOk]
  · simp [ValidIffOk]
  · exact h
  · exact h

/-- Settles O28: `DOUT_VALID` is written with `STEP` and `STATUS` at every accept, fault, completion and reset. -/
theorem doutValidExactlyWhenOk : Obligations.DoutValidExactlyWhenOk := fun _ _ h hs =>
  step_keeps (P := ValidIffOk) (by simp [ValidIffOk]) (by simp [ValidIffOk]) (fun _ => validIffOk_tick)
    (fun _ h => h) h hs

/-! ## Accept (R14) -/

/-- Every header has its own fields back from the row it selects (R62). -/
theorem header_ofHeader (f : Header) : (Instr.ofHeader f).header = f := by
  obtain ⟨op, kp, dp, kl, dl⟩ := f
  cases op <;> simp only [Instr.ofHeader] <;> split_ifs with h2 h3
  all_goals simp_all [isTwoKeyForm, isThreeKeyForm, Instr.header]

/-! ## The block reads nothing from the host (R14) -/

/-- The state with other host wires, now and to come. -/
def rehost (w : HostWires) (ws : List HostWires) (s : State) : State :=
  { s with host := w, hostNext := ws }

section Rehost

variable (c : DesCore) (w : HostWires) (ws : List HostWires) (s : State)


theorem check_rehost : check (rehost w ws s) = rehost w ws (check s) := by
  cases hv : violation s.kmPresent s.kmLen s.dinPresent s.dinLen with
  | some x =>
    rw [check_of_violation hv, check_of_violation (s := rehost w ws s) hv]
    rfl
  | none =>
    have hv := (violation_eq_none_iff ..).mp hv
    rw [check_of_valid hv, check_of_valid (s := rehost w ws s) hv]
    rfl

theorem pollCall_rehost (call : Call) : pollCall c call (rehost w ws s) = rehost w ws (pollCall c call s) := by
  have hnow : (rehost w ws s).core.now = s.core.now := rfl
  cases hn : s.core.now with
  | ok =>
    have hstep : (rehost w ws s).step = s.step := rfl
    by_cases h4 : s.step = 4#3 <;> simp [pollCall, hnow, hn, afterAnswer, hstep, h4] <;> rfl
  | fail =>
    simp only [pollCall, hnow, hn]
    rfl
  | silent =>
    simp only [pollCall, hnow, hn]
    rfl

theorem tick_rehost : tick c (rehost w ws s) = rehost w ws (tick c s) := by
  by_cases h1 : s.step = 1#3
  · rw [tick_check h1, tick_check (s := rehost w ws s) h1, check_rehost]
  · cases hc : calling s with
    | false =>
      have hb : busy s = false := by simp [busy, h1, hc]
      rw [tick_of_not_busy hb, tick_of_not_busy (s := rehost w ws s) hb]
    | true =>
      cases hp : s.pend with
      | none =>
        rw [tick_issue hc hp, tick_issue (s := rehost w ws s) hc hp]
        rfl
      | some call => rw [tick_poll hc hp, tick_poll (s := rehost w ws s) hc hp, pollCall_rehost]

/-- Running on stops in a state or makes one more step from it. -/
theorem stops_or_goes (s : State) :
    (busy s = false ∨ waitingForCore s = true) ∨ (busy s = true ∧ waitingForCore s = false) := by
  cases busy s <;> cases waitingForCore s <;> simp

theorem settle_rehost (n : Nat) : ∀ s, settle c n (rehost w ws s) = rehost w ws (settle c n s) := by
  induction n with
  | zero => exact fun _ => rfl
  | succ n ih =>
    intro s
    rcases stops_or_goes s with hstop | ⟨hb, hw⟩
    · rw [settle_stop hstop, settle_stop (s := rehost w ws s) hstop]
    · rw [settle_go hb hw, settle_go (s := rehost w ws s) hb hw, tick_rehost, ih]

theorem goOn_rehost : goOn c (rehost w ws s) = rehost w ws (goOn c s) := by
  cases hg : s.grain with
  | micro => rw [goOn_micro hg, goOn_micro (s := rehost w ws s) hg]
  | operation => rw [goOn_operation hg, goOn_operation (s := rehost w ws s) hg, settle_rehost]

end Rehost

/-- Settles O11: an accept is one copy of the wires; after it `tick_rehost` says that no step of the block reads them. -/
theorem acceptLatchesTheRequest : Obligations.AcceptLatchesTheRequest := by
  refine ⟨fun i s hg h05 => ?_, fun h => header_ofHeader _, fun s w => ?_⟩
  · rw [exec_eq_request, request_of_accepting (accepting_iff.mpr h05), goOn_micro (s := accept _ s) hg]
    rfl
  · calc tick desCore (rehost w s.hostNext s)
      _ = rehost w s.hostNext (tick desCore s) := tick_rehost ..
      _ = rehost w (tick desCore s).hostNext (tick desCore s) := by rw [tick_hostNext]

/-! ## The fused model and the stepped model (R24) -/

section Fused

variable {s : State}

/-- The host's wires with neither reset nor a request. -/
def quietWires (w : HostWires) : HostWires :=
  { w with reset := false, req := false }

/-- The state with the host making neither reset nor request in this step, and then driving what its list says. -/
def quieted (s : State) : State :=
  rehost (quietWires s.host) s.hostNext s

/-- The state at grain `micro`, its host quiet for `k` more steps before it drives what its list says. -/
def stepped (k : Nat) (s : State) : State :=
  { s with grain := .micro, hostNext := List.replicate k (quietWires s.host) ++ s.hostNext }

/-- What the host drives next is the same after a quiet step. -/
theorem hostMoves_quieted (s : State) : hostMoves (quieted s) = hostMoves s := by
  simp only [hostMoves, nextWires, quieted, rehost, quietWires]

theorem hostMoves_stepped_succ (k : Nat) (s : State) : hostMoves (stepped (k + 1) s) = stepped k (quieted s) :=
  rfl

theorem tick_stepped (c : DesCore) (k : Nat) (s : State) : tick c (stepped k s) = stepped k (tick c s) := by
  simp only [stepped, tick_host, tick_hostNext, tick_regrain]

theorem tick_quieted (c : DesCore) (s : State) : tick c (quieted s) = quieted (tick c s) := by
  simp only [quieted, tick_host, tick_hostNext, tick_rehost]

theorem settle_quieted (c : DesCore) (n : Nat) (s : State) : settle c n (quieted s) = quieted (settle c n s) := by
  obtain ⟨hhost, hnext⟩ : (settle c n s).host = s.host ∧ (settle c n s).hostNext = s.hostNext :=
    settle_keeps (P := fun t => t.host = s.host ∧ t.hostNext = s.hostNext) (by simp) n s ⟨rfl, rfl⟩
  simp only [quieted, hhost, hnext, settle_rehost]

/-- At grain `micro` the block's own step is the whole step. -/
theorem step_stepped_of_block (k : Nat) (hr : s.host.reset = false) (hq : s.host.req = false ∨ accepting s = false)
    (hs : stuck s = false) : step (stepped k s) = .next (hostMoves (stepped k (tick desCore s))) := by
  rw [step_of_block (s := stepped k s) hr hq hs, tick_stepped]
  rfl

/-- Running on is single steps of the block with a quiet host, in every register. -/
theorem run_stepped_eq_settle (n : Nat) : ∀ s, ∃ k, k ≤ n ∧
    Host.Core.run core k (hostMoves (stepped k s)) = .next (hostMoves (stepped 0 (settle desCore n s))) := by
  induction n with
  | zero => exact fun s => ⟨0, le_rfl, rfl⟩
  | succ n ih =>
    intro s
    rcases stops_or_goes s with hstop | ⟨hb, hw⟩
    · exact ⟨0, Nat.zero_le _, by rw [settle_stop hstop]; rfl⟩
    · obtain ⟨k, hk, hrun⟩ := ih (quieted (tick desCore s))
      refine ⟨k + 1, by omega, ?_⟩
      have hstep : step (stepped k (quieted s)) = .next (hostMoves (stepped k (tick desCore (quieted s)))) :=
        step_stepped_of_block (s := quieted s) k rfl (.inl rfl) (not_stuck_of_busy hb)
      rw [hostMoves_stepped_succ, run_succ k hstep, tick_quieted, hrun, settle_quieted, settle_go hb hw]
      exact congrArg _ (hostMoves_quieted (stepped 0 _))

end Fused

/-- Settles O20: the first step is the same at both grains, and `run_stepped_eq_settle` is what a fused step does after it. -/
theorem fusedStepIsSomeStepsOfTheBlock : Obligations.FusedStepIsSomeStepsOfTheBlock := by
  intro s hg h
  rcases step_cases s with ⟨hr, e⟩ | ⟨hr, hq, ha, e⟩ | ⟨hr, hq, hs, e⟩ | ⟨hr, hs, -⟩
  · exact ⟨0, _, by decide, e, run_succ 0 (step_of_reset (s := stepped 0 s) hr)⟩
  · rw [goOn_operation (s := accept _ s) hg] at e
    obtain ⟨k, hk, hrun⟩ := run_stepped_eq_settle 7 (accept (decode s.host.hdr).header s)
    have hfirst : step (stepped k s) = .next (hostMoves (stepped k (accept (decode s.host.hdr).header s))) :=
      step_of_accept (s := stepped k s) hr hq ha
    exact ⟨k, _, by omega, e, (run_succ k hfirst).trans hrun⟩
  · rw [goOn_operation ((tick_grain ..).trans hg)] at e
    obtain ⟨k, hk, hrun⟩ := run_stepped_eq_settle 7 (tick desCore s)
    exact ⟨k, _, by omega, e, (run_succ k (step_stepped_of_block k hr hq hs)).trans hrun⟩
  · have hle : s.step.toNat ≤ 5 := h.resolve_left (by simp [hr])
    exact absurd (hs.symm.trans (not_stuck_of_le_five hle)) (by decide)

/-! ## `DES_CORE`'s script -/

theorem afterPolls_add (m n : Nat) : ∀ k, afterPolls (m + n) k = afterPolls n (afterPolls m k) := by
  induction m with
  | zero => exact fun k => by rw [Nat.zero_add]; rfl
  | succ m ih => exact fun k => by rw [Nat.succ_add]; exact ih k.advance

theorem nextAnswers_add (m n : Nat) : ∀ k, nextAnswers (m + n) k = nextAnswers m k ++ nextAnswers n (afterPolls m k) := by
  induction m with
  | zero => exact fun k => by rw [Nat.zero_add]; rfl
  | succ m ih => exact fun k => by rw [Nat.succ_add]; exact congrArg _ (ih k.advance)

@[simp] theorem length_nextAnswers (n : Nat) : ∀ k, (nextAnswers n k).length = n := by
  induction n with
  | zero => exact fun _ => rfl
  | succ n ih => exact fun k => congrArg _ (ih k.advance)

/-- The answers to `m + n` polls, split after the first `m`. -/
theorem nextAnswers_add_eq_append {m n : Nat} {k : CoreScript} {xs ys : List CoreAnswer} (hx : xs.length = m) :
    nextAnswers (m + n) k = xs ++ ys ↔ nextAnswers m k = xs ∧ nextAnswers n (afterPolls m k) = ys := by
  rw [nextAnswers_add]
  exact ⟨fun h => List.append_inj h (by simp [hx]), fun ⟨hxs, hys⟩ => by rw [hxs, hys]⟩

/-- `DES_CORE` answers `m` polls `ok` and the next one with `a`. -/
theorem nextAnswers_succ_iff {m : Nat} {k : CoreScript} {a : CoreAnswer} :
    nextAnswers (m + 1) k = List.replicate m .ok ++ [a] ↔
      nextAnswers m k = List.replicate m .ok ∧ (afterPolls m k).now = a := by
  rw [nextAnswers_add_eq_append (by simp)]
  simp [nextAnswers]

/-- The first of three answers that is not `ok`, or else the third. -/
theorem exists_last_answer (k : CoreScript) : ∃ m a, m < 3 ∧ (a = .ok → m = 2) ∧
    nextAnswers (m + 1) k = List.replicate m .ok ++ [a] := by
  by_cases h0 : k.now = .ok
  · by_cases h1 : k.advance.now = .ok
    · exact ⟨2, k.advance.advance.now, by decide, fun _ => rfl, by simp [nextAnswers, h0, h1]⟩
    · exact ⟨1, k.advance.now, by decide, fun h => absurd h h1, by simp [nextAnswers, h0]⟩
  · exact ⟨0, k.now, by decide, fun h => absurd h h0, by simp [nextAnswers]⟩

/-! ## The states of an operation that is run in one step -/

section Operation

variable (c : DesCore) (f : Header) (n : Nat) (k : CoreScript) (s : State)

/-- A valid request in `CALL` `n + 1`, with `PEND` and `DES_CORE`'s script as given. -/
def inCall (pend : Option Call) : State :=
  { working c f n s with step := BitVec.ofNat 3 (n + 2), doutValid := false, core := k, pend := pend }

/-- Call number `n + 1` of the request (R100). -/
def callAt : Call :=
  callOf f.op (keyOf f.kmLen s.host.km) (workedOn c f.op (keyOf f.kmLen s.host.km) s.host.din n) n

/-- A valid request with call `n + 1` pending. -/
def pending : State :=
  inCall c f n k s (some (callAt c f n s))

/-- Where an operation stops whose call `n + 1` gets the answer `a`: after call 3 complete, else aborted or waiting. -/
def endedBy : CoreAnswer → State
  | .ok => { completed c f s with core := k.advance }
  | .fail => { aborted c f n s with core := k.advance }
  | .silent => pending c f n k s

variable {c f n k s}

theorem pending_eq_waiting (hn : n < 3) : pending c f n k s = { waiting c f n s with core := k } := by
  simp only [pending, inCall, waiting, callsOf_getElem? c f.op (keyOf f.kmLen s.host.km) s.host.din hn]
  rfl

theorem calling_inCall (hn : n < 3) (p : Option Call) : calling (inCall c f n k s p) = true := by
  obtain rfl | rfl | rfl : n = 0 ∨ n = 1 ∨ n = 2 := by omega
  all_goals rfl

theorem busy_inCall (hn : n < 3) (p : Option Call) : busy (inCall c f n k s p) = true := by
  simp [busy, calling_inCall hn]

theorem busy_pending (hn : n < 3) : busy (pending c f n k s) = true :=
  busy_inCall hn _

theorem waitingForCore_issuing : waitingForCore (inCall c f n k s none) = false := by
  simp [waitingForCore, inCall]

theorem waitingForCore_pending (hn : n < 3) : waitingForCore (pending c f n k s) = (k.now == .silent) := by
  simp only [waitingForCore, pending, calling_inCall hn]
  rfl

/-- CHECK of a valid request (R80 to R84, R88). -/
theorem tick_accept_of_valid (hv : ValidOperands f.kmPresent f.dinPresent f.kmLen f.dinLen) :
    tick c (accept f s) = inCall c f 0 s.core s none := by
  rw [tick_check rfl, check_of_valid (s := accept f s) hv]
  simp only [keySplit, subKey1_eq, subKey2_eq, subKey3_eq, modeOf_eq]
  rfl

theorem subKey_inCall (p : Option Call) (j : KeyIx) : (inCall c f n k s p).subKey j = keyOf f.kmLen s.host.km j := by
  cases j <;> rfl

/-- The issue of call `n + 1` (R99, R100). -/
theorem tick_issuing (hn : n < 3) : tick c (inCall c f n k s none) = pending c f n k s := by
  have hnum : callNumber (inCall c f n k s none) = n + 1 := by
    simp only [callNumber, inCall, toNat_callStep hn]
    rfl
  have hcall : nextCall (inCall c f n k s none) = callAt c f n s := by
    simp only [nextCall, hnum, subKey_inCall]
    rfl
  rw [tick_issue (calling_inCall hn _) rfl, issueCall, hcall]
  rfl

/-- The `ok` answer to call `n + 1`, before `STEP` moves (R99). -/
theorem takeAnswer_pending (hn : n < 3) :
    takeAnswer (callAt c f n s) (c.answer (callAt c f n s)) (coreMoves (pending c f n k s)) =
      { inCall c f (n + 1) k.advance s none with step := BitVec.ofNat 3 (n + 2) } := by
  have htrace := callsOf_take_succ c f.op (keyOf f.kmLen s.host.km) s.host.din hn
  have hwork := workedOn_succ c f.op (keyOf f.kmLen s.host.km) s.host.din hn
  simp only [inCall, working, htrace, workedOn] at hwork ⊢
  rw [hwork]
  rfl

theorem tick_pending (hn : n < 3) : tick c (pending c f n k s) = pollCall c (callAt c f n s) (pending c f n k s) :=
  tick_poll (calling_inCall hn _) rfl

theorem core_now_pending : (pending c f n k s).core.now = k.now := rfl

/-- The `ok` answer to call 1 or 2 (R99). -/
theorem tick_pending_ok (hn : n < 2) (h : k.now = .ok) :
    tick c (pending c f n k s) = inCall c f (n + 1) k.advance s none := by
  rw [tick_pending (by omega)]
  simp only [pollCall, core_now_pending, h, takeAnswer_pending (show n < 3 by omega), afterAnswer]
  obtain rfl | rfl : n = 0 ∨ n = 1 := by omega
  all_goals rfl

/-- An answer after which the operation goes no further (R99, R102, R125). -/
theorem tick_pending_ended (hn : n < 3) {a : CoreAnswer} (h : k.now = a) (ha : a ≠ .silent) (hok : a = .ok → n = 2) :
    tick c (pending c f n k s) = endedBy c f n k s a := by
  rw [tick_pending hn]
  cases a with
  | ok =>
    obtain rfl := hok rfl
    simp only [pollCall, core_now_pending, h, takeAnswer_pending hn, endedBy, completed, resultOf_eq_workedOn]
    rfl
  | fail =>
    simp only [pollCall, core_now_pending, h]
    rfl
  | silent => exact absurd rfl ha

theorem tick_pending_silent (hn : n < 3) (h : k.now = .silent) :
    tick c (pending c f n k s) = pending c f n k.advance s := by
  rw [tick_pending hn]
  simp only [pollCall, core_now_pending, h]
  rfl

/-! ## Running on -/

theorem busy_endedBy {a : CoreAnswer} (ha : a ≠ .silent) : busy (endedBy c f n k s a) = false := by
  cases a with
  | ok => rfl
  | fail => rfl
  | silent => exact absurd rfl ha

/-- A call that is answered `ok` costs two of the block's steps: its answer and the issue of the next. -/
theorem settle_pending_ok (hn : n < 2) (h : k.now = .ok) (F : Nat) :
    settle c (F + 2) (pending c f n k s) = settle c F (pending c f (n + 1) k.advance s) := by
  rw [settle_go (busy_pending (by omega)) (by rw [waitingForCore_pending (by omega), h]; rfl), tick_pending_ok hn h,
    settle_go (busy_inCall (by omega) _) waitingForCore_issuing, tick_issuing (by omega)]

/-- From a pending call on, the operation runs through `d` answers `ok` and ends by the next answer. -/
theorem settle_pending {a : CoreAnswer} (d : Nat) : ∀ {n k F}, n + d < 3 → 2 * d < F → (a = .ok → n + d = 2) →
    nextAnswers (d + 1) k = List.replicate d .ok ++ [a] →
    settle c F (pending c f n k s) = endedBy c f (n + d) (afterPolls d k) s a := by
  induction d with
  | zero =>
    intro n k F hn hF hok h
    rw [Nat.add_zero] at hn hok ⊢
    have hnow : k.now = a := (nextAnswers_succ_iff.mp h).2
    by_cases ha : a = .silent
    · subst ha
      exact settle_stop (.inr (by rw [waitingForCore_pending hn, hnow]; rfl))
    · obtain ⟨F, rfl⟩ : ∃ F', F = F' + 1 := ⟨F - 1, by omega⟩
      rw [settle_go (busy_pending hn) (by simp [waitingForCore_pending hn, hnow, ha]),
        tick_pending_ended hn hnow ha hok, settle_stop (.inl (busy_endedBy ha))]
      rfl
  | succ d ih =>
    intro n k F hn hF hok h
    obtain ⟨hnow, hrest⟩ := List.cons_eq_cons.mp h
    obtain ⟨F, rfl⟩ : ∃ F', F = F' + 2 := ⟨F - 2, by omega⟩
    have hnd : n + (d + 1) = n + 1 + d := by omega
    rw [settle_pending_ok (by omega) hnow, hnd]
    exact ih (by omega) (by omega) (by rwa [hnd] at hok) hrest

theorem settle_accept_of_valid (hv : ValidOperands f.kmPresent f.dinPresent f.kmLen f.dinLen) (F : Nat) :
    settle c (F + 2) (accept f s) = settle c F (pending c f 0 s.core s) := by
  rw [settle_go rfl rfl, tick_accept_of_valid hv, settle_go (busy_inCall (by decide) _) waitingForCore_issuing,
    tick_issuing (by decide)]

/-! ## A whole operation in one step -/

/-- A valid request whose call `m + 1` is the first without an `ok` answer, or the last. -/
theorem request_of_valid {m : Nat} {a : CoreAnswer} (hg : s.grain = .operation) (h05 : s.step = 0#3 ∨ s.step = 5#3)
    (hv : ValidOperands f.kmPresent f.dinPresent f.kmLen f.dinLen) (hm : m < 3) (hok : a = .ok → m = 2)
    (h : nextAnswers (m + 1) s.core = List.replicate m .ok ++ [a]) :
    request c f s = .next (endedBy c f m (afterPolls m s.core) s a) := by
  have hrun := settle_pending (c := c) (f := f) (s := s) (F := 5) m (n := 0) (by omega) (by omega) (by simpa using hok) h
  rw [request_of_accepting (accepting_iff.mpr h05), goOn_operation (s := accept f s) hg, settle_accept_of_valid hv, hrun,
    Nat.zero_add]

/-- A request that violates its contract (R123). -/
theorem request_of_reports {x : BitVec 3} (hg : s.grain = .operation) (h05 : s.step = 0#3 ∨ s.step = 5#3)
    (hx : Reports f.kmPresent f.dinPresent f.kmLen f.dinLen x) : request c f s = .next (rejected x f s) := by
  rw [request_of_accepting (accepting_iff.mpr h05), goOn_operation (s := accept f s) hg, settle_go rfl rfl, tick_check rfl,
    check_of_violation (s := accept f s) ((violation_eq_some_iff ..).mpr hx), settle_stop (.inl rfl)]
  rfl

end Operation

/-- Settles O19: the operation stops at its first call without an answer. -/
theorem operationWaitsForASilentCore : Obligations.OperationWaitsForASilentCore := by
  intro i s n hg h05 hn hv h
  have hwait : pending desCore i.header n (afterPolls n s.core) s = waiting desCore i.header n s :=
    pending_eq_waiting hn
  rw [exec_eq_request, request_of_valid hg h05 hv hn (by simp) h, ← hwait]
  exact ⟨rfl, busy_pending hn, nofun⟩

/-! ## What can be seen of an operation's end (R25) -/

/-- Two states show the same to the host and at the port of `DES_CORE`. -/
abbrev LooksLike (t t' : State) : Prop :=
  response t = response t' ∧ t.step = t'.step ∧ t.trace = t'.trace ∧ t.pend = t'.pend ∧ t.core = t'.core

section Ends

variable {c : DesCore} {f : Header} {s s' : State}

theorem rejected_looksLike (x : BitVec 3) (hcore : s.core = s'.core) : LooksLike (rejected x f s) (rejected x f s') :=
  ⟨rfl, rfl, rfl, rfl, hcore⟩

/-- The request, the two functions at the port and `DES_CORE`'s answers fix all that can be seen. -/
theorem endedBy_looksLike {n : Nat} {k : CoreScript} {a : CoreAnswer} (hn : n < 3) (hkm : s.host.km = s'.host.km)
    (hdin : s.host.din = s'.host.din) : LooksLike (endedBy c f n k s a) (endedBy c f n k s' a) := by
  have hcall : callAt c f n s = callAt c f n s' := by simp only [callAt, hkm, hdin]
  cases a with
  | ok => simp [LooksLike, endedBy, completed, working, response, busy, calling, done, latched, hkm, hdin]
  | fail => simp [LooksLike, endedBy, aborted, working, response, busy, calling, done, latched, hkm, hdin]
  | silent =>
    obtain rfl | rfl | rfl : n = 0 ∨ n = 1 ∨ n = 2 := by omega
    all_goals
      simp [LooksLike, endedBy, pending, hcall, inCall, working, response, busy, calling, done, latched, hkm, hdin]

end Ends

/-- Settles O38: both operations end alike, as the request and `DES_CORE`'s answers alone have it. -/
theorem noStateCrossesOperations : Obligations.NoStateCrossesOperations := by
  intro i s s' hg hg' h05 h05' hkm hdin hcore
  simp only [exec_eq_request]
  cases hv : violation i.header.kmPresent i.header.kmLen i.header.dinPresent i.header.dinLen with
  | some x =>
    have hx := (violation_eq_some_iff ..).mp hv
    exact ⟨_, _, request_of_reports hg h05 hx, request_of_reports hg' h05' hx, rejected_looksLike x hcore⟩
  | none =>
    have hv := (violation_eq_none_iff ..).mp hv
    obtain ⟨m, a, hm, hok, h⟩ := exists_last_answer s.core
    have h' := hcore ▸ h
    refine ⟨_, _, request_of_valid hg h05 hv hm hok h, request_of_valid hg' h05' hv hm hok h', ?_⟩
    rw [← hcore]
    exact endedBy_looksLike hm hkm hdin

/-! ## Resuming a waiting operation (R24, R152) -/

section Resume

variable {c : DesCore} {f : Header} {n : Nat} {k : CoreScript} {s : State}

/-- A fused step of a waiting operation that no reset meets: one of the block's steps, then on (R147: a request has no effect). -/
theorem step_rehost_pending (hg : s.grain = .operation) (hn : n < 3) {w : HostWires} {ws : List HostWires}
    (hw : w.reset = false) :
    step (rehost w ws (pending desCore f n k s)) =
      .next (hostMoves (rehost w ws (settle desCore 7 (tick desCore (pending desCore f n k s))))) := by
  have hb : busy (rehost w ws (pending desCore f n k s)) = true := busy_pending (c := desCore) (f := f) (k := k) (s := s) hn
  rw [step_of_block hw (.inr (not_accepting_of_busy hb)) (not_stuck_of_busy hb), tick_rehost, goOn_rehost,
    goOn_operation (s := tick desCore (pending desCore f n k s)) ((tick_grain ..).trans hg)]

/-- The resumed operation ends by the first answer that is not `ok`, or after call 3; up to one poll in vain comes first. -/
theorem settle_tick_pending {a : CoreAnswer} {q d : Nat} (hn : n + d < 3) (hq : q ≤ 1) (hok : a = .ok → n + d = 2)
    (hgo : a = .silent → 0 < q + d)
    (h : nextAnswers (q + (d + 1)) k = List.replicate q .silent ++ (List.replicate d .ok ++ [a])) :
    settle c 7 (tick c (pending c f n k s)) = endedBy c f (n + d) (afterPolls (q + d) k) s a := by
  obtain ⟨hvain, hrest⟩ := (nextAnswers_add_eq_append (by simp)).mp h
  rw [afterPolls_add]
  obtain rfl | rfl : q = 0 ∨ q = 1 := by omega
  · have hnow : k.now ≠ .silent := by
      cases d with
      | zero =>
        have hlast : k.now = a := (nextAnswers_succ_iff.mp hrest).2
        exact fun e => absurd (hgo (hlast.symm.trans e)) (by decide)
      | succ d =>
        have hfirst : k.now = .ok := (List.cons_eq_cons.mp hrest).1
        simp [hfirst]
    rw [← settle_go (n := 7) (busy_pending (by omega)) (by simp [waitingForCore_pending (show n < 3 by omega), hnow])]
    exact settle_pending d hn (by omega) hok hrest
  · have hnow : k.now = .silent := by simpa [nextAnswers] using hvain
    rw [tick_pending_silent (by omega) hnow]
    exact settle_pending d hn (by omega) hok hrest

/-- A fused step that resumes a waiting operation. -/
theorem step_waiting {a : CoreAnswer} {q m : Nat} {w : HostWires} {ws : List HostWires} (hg : s.grain = .operation)
    (hnm : n ≤ m) (hm : m < 3) (hq : q ≤ 1) (hw : w.reset = false) (hok : a = .ok → m = 2)
    (hgo : a = .silent → 0 < q + (m - n))
    (h : nextAnswers (q + (m - n) + 1) k = List.replicate q .silent ++ List.replicate (m - n) .ok ++ [a]) :
    step { waiting desCore f n s with core := k, host := w, hostNext := ws } =
      .next (hostMoves (rehost w ws (endedBy desCore f m (afterPolls (q + (m - n)) k) s a))) := by
  have hd : n + (m - n) = m := by omega
  have hrun := settle_tick_pending (c := desCore) (f := f) (s := s) (n := n) (d := m - n) (by omega) hq (by rwa [hd])
    hgo (by rwa [List.append_assoc, Nat.add_assoc] at h)
  have hstep := step_rehost_pending (f := f) (k := k) hg (show n < 3 by omega) (ws := ws) hw
  rw [hrun, hd, pending_eq_waiting (by omega)] at hstep
  exact hstep

end Resume

/-- Settles O42: the resumed operation runs on from its pending call. -/
theorem waitingOperationResumes : Obligations.WaitingOperationResumes := by
  intro f s n q k w ws hg hn hq hw u
  refine ⟨fun h => ?_, fun m hnm hm h => ?_, fun m hnm hm hgo h => ?_⟩
  · have hd : q + (2 - n) + 1 = q + (3 - n) := by omega
    have h' : nextAnswers (q + (2 - n) + 1) k = List.replicate q .silent ++ List.replicate (2 - n) .ok ++ [.ok] := by
      rw [hd, h, List.append_assoc, ← List.replicate_succ', show 2 - n + 1 = 3 - n by omega]
    have hstep := step_waiting (f := f) (ws := ws) hg (show n ≤ 2 by omega) (by decide) hq hw (fun _ => rfl) (by simp) h'
    rw [← hd, afterPolls_add (q + (2 - n)) 1]
    exact hstep
  · have hstep := step_waiting (f := f) (ws := ws) hg hnm hm hq hw (by simp) (by simp) h
    rw [afterPolls_add (q + (m - n)) 1]
    exact hstep
  · have hstep := step_waiting (f := f) (ws := ws) hg hnm hm hq hw (by simp) (fun _ => hgo) h
    rw [endedBy, pending_eq_waiting hm] at hstep
    exact hstep

end Sys2Proof.Proofs
end

section
/-! PROOFS. The memory family (20_memory.md): the copy of a bit range, read bit by bit at sequence indices. -/

namespace Sys2Proof.Proofs

open Sys2Proof.Machine

/-! ## The copy of a bit range (R42) -/

section Copy

variable {dl sl n : Nat}

/-- A field of `n` bits placed at sequence index `off`: what `copyBits` does with its mask and with the source's range alike. -/
theorem getMsbD_placed (x : BitVec n) {off : Nat} (h : off + n ≤ dl) (j : Nat) :
    (x.setWidth dl <<< (dl - (off + n))).getMsbD j = (decide (off ≤ j) && x.getMsbD (j - off)) := by
  have hfrom : dl - n ≤ j + (dl - (off + n)) ↔ off ≤ j := by omega
  have hix : j + (dl - (off + n)) + n - dl = j - off := by omega
  rw [BitVec.getMsbD_shiftLeft, BitVec.getMsbD_setWidth, hix]
  simp only [hfrom]

/-- The `n` bits of a sequence from index `start` on. -/
theorem getMsbD_range (src : BitVec sl) {start i : Nat} (h : start + n ≤ sl) (hi : i < n) :
    (src.extractLsb' (sl - (start + n)) n).getMsbD i = src.getMsbD (start + i) := by
  have hin : sl - (start + n) + n - i ≤ sl := by omega
  have hix : sl - (sl - (start + n) + n - i) = start + i := by omega
  simp [BitVec.getMsbD_extractLsb', hi, hin, hix]

variable (dst : BitVec dl) {dstOff j : Nat} (src : BitVec sl) {srcStart : Nat} (hs : srcStart + n ≤ sl) (hd : dstOff + n ≤ dl)

/-- Bit `j` of a copy: the source's field where the mask is set, the destination's bit where it is not. -/
theorem getMsbD_copyBits (hj : j < dl) :
    (copyBits dst dstOff src srcStart n hs hd).getMsbD j =
      (dst.getMsbD j && !(decide (dstOff ≤ j) && decide (j - dstOff < n)) ||
        decide (dstOff ≤ j) && (src.extractLsb' (sl - (srcStart + n)) n).getMsbD (j - dstOff)) := by
  simp only [copyBits, BitVec.getMsbD_or, BitVec.getMsbD_and, BitVec.getMsbD_not, getMsbD_placed _ hd,
    BitVec.getMsbD_allOnes, hj, decide_true, Bool.true_and]

theorem getMsbD_copyBits_inside {i : Nat} (hi : i < n) :
    (copyBits dst dstOff src srcStart n hs hd).getMsbD (dstOff + i) = src.getMsbD (srcStart + i) := by
  rw [getMsbD_copyBits dst src hs hd (by omega), Nat.add_sub_cancel_left, getMsbD_range src hs hi]
  simp [hi]

theorem getMsbD_copyBits_outside (hj : j < dl) (hout : ¬ (dstOff ≤ j ∧ j < dstOff + n)) :
    (copyBits dst dstOff src srcStart n hs hd).getMsbD j = dst.getMsbD j := by
  rw [getMsbD_copyBits dst src hs hd hj]
  by_cases hfrom : dstOff ≤ j
  · have hpast : n ≤ j - dstOff := by omega
    simp [hpast]
  · simp [hfrom]

end Copy

theorem getMsbD_window (km : KeyBus) {a i : Nat} (h : a + 64 ≤ 192) (hi : i < 64) :
    (window km a h).getMsbD i = km.getMsbD (a + i) := by
  rw [window_eq_extract]
  exact getMsbD_range km h hi

/-- Settles O32: the copied range by the source's bits, every other bit by the destination's, and the window by its law. -/
theorem copyBitsCopiesItsRange : Obligations.CopyBitsCopiesItsRange :=
  ⟨fun _ _ => BitVec.getMsbD_zero,
    fun _ _ dst _ src _ _ hs hd =>
      ⟨fun _ hi => getMsbD_copyBits_inside dst src hs hd hi,
        fun _ hj hout => getMsbD_copyBits_outside dst src hs hd hj hout⟩,
    fun km _ h _ hi => getMsbD_window km h hi⟩

end Sys2Proof.Proofs
end

section
/-! PROOFS. The encoding family (30_encoding.md): a header and its five fields, an instruction and its header, the forms of the
two operations, the response. -/

namespace Sys2Proof.Proofs

open Sys2Proof.Machine Sys2Proof.Safety

/-! ## A header and its fields (R54, R55) -/

@[simp] theorem bit_ofBit (b : Bool) : (Op.ofBit b).bit = b := by
  cases b <;> rfl

/-- A header is the weighted sum of its fields (R54). -/
theorem toNat_eq_sum_fields (h : HeaderWord) :
    h.toNat = (Header.ofWord h).op.bit.toNat * 2 ^ 18 + (Header.ofWord h).kmPresent.toNat * 2 ^ 17 +
      (Header.ofWord h).dinPresent.toNat * 2 ^ 16 + (Header.ofWord h).kmLen.toNat * 2 ^ 8 +
      (Header.ofWord h).dinLen.toNat := by
  have hlt := h.isLt
  have hbit (n : Nat) : (h.getLsbD n).toNat = h.toNat / 2 ^ n % 2 := Nat.toNat_testBit ..
  simp only [Header.ofWord, bit_ofBit, hbit, BitVec.extractLsb'_toNat, Nat.shiftRight_eq_div_pow]
  omega

/-- Packing the unpacked fields of a header gives it back (R54): no bit is reserved. -/
theorem toWord_ofWord (h : HeaderWord) : Header.toWord (Header.ofWord h) = h := by
  rw [Header.toWord, ← toNat_eq_sum_fields, BitVec.ofNat_toNat, BitVec.setWidth_eq]

/-! ## An instruction and its header (R62, R63) -/

/-- `encode` places the header's fields as R54 does, for the alias rows too. -/
theorem encode_eq_toWord_header (i : Instr) : encode i = i.header.toWord := by
  cases i <;> rfl

theorem header_decode (h : HeaderWord) : (decode h).header = Header.ofWord h :=
  header_ofHeader _

/-- A row's spelling is the one the decoder selects, if it is the well-formed one (log 7). -/
theorem ofHeader_header {i : Instr} (hi : i.wellFormed = true) : Instr.ofHeader i.header = i := by
  cases i with
  | encrypt kp dp kl dl | decrypt kp dp kl dl =>
    obtain ⟨h2, h3⟩ : isTwoKeyForm kp dp kl dl = false ∧ isThreeKeyForm kp dp kl dl = false := by
      simpa [Instr.wellFormed] using hi
    simp [Instr.header, Instr.ofHeader, h2, h3]
  | encrypt2K | encrypt3K | decrypt2K | decrypt3K => rfl

/-- The decoder gives a header its well-formed spelling (log 7). -/
theorem wellFormed_ofHeader (f : Header) : (Instr.ofHeader f).wellFormed = true := by
  obtain ⟨op, kp, dp, kl, dl⟩ := f
  cases op <;> simp only [Instr.ofHeader] <;> split_ifs with h2 h3
  all_goals simp_all [Instr.wellFormed]

/-- Settles O1: the encoding is the packed header, unpacking which gives the header back; a well-formed spelling is its row's. -/
theorem decodeOfEncode : Obligations.DecodeOfEncode := fun i hi =>
  calc decode (encode i)
    _ = Instr.ofHeader (Header.ofWord i.header.toWord) := by rw [encode_eq_toWord_header, decode]
    _ = Instr.ofHeader i.header := by rw [Laws.ofWord_toWord]
    _ = i := ofHeader_header hi

/-- Settles O2: the decoded header has the fields of the header, packing which gives the header back. -/
theorem encodeOfDecode : Obligations.EncodeOfDecode := fun h =>
  ⟨wellFormed_ofHeader _, by rw [encode_eq_toWord_header, header_decode, toWord_ofWord]⟩

/-- Settles O3: the decoded row has the header's own fields, and the header is their weighted sum. -/
theorem headerFieldPlaces : Obligations.HeaderFieldPlaces := by
  refine ⟨fun h => ?_, by decide, by decide, by decide, by decide⟩
  simp only [header_decode]
  refine ⟨wellFormed_ofHeader _, bit_ofBit _, rfl, rfl, ?_, ?_, toNat_eq_sum_fields h⟩
  · simp [Header.ofWord, BitVec.extractLsb'_toNat, Nat.shiftRight_eq_div_pow]
  · simp [Header.ofWord, BitVec.extractLsb'_toNat]

/-- Settles O5, by evaluation of the decoder on the eleven headers. -/
theorem sampleHeadersDecode : Obligations.SampleHeadersDecode := by
  unfold Obligations.SampleHeadersDecode
  decide

/-! ## The forms of the two operations (R62) -/

/-- The header's fields alone say what an instruction does. -/
theorem exec_congr_header {i j : Instr} (h : i.header = j.header) (s : State) : exec i s = exec j s := by
  rw [exec_eq_request, exec_eq_request, h]

/-- Settles O4: `HDR[18]` selects the operation, and the other fields are the operands. -/
theorem opcodeByBit18 : Obligations.OpcodeByBit18 := by
  refine fun h s => ⟨fun hop => exec_congr_header ?_ s, fun hop => exec_congr_header ?_ s⟩
  all_goals rw [header_decode, Header.ofWord, hop]; rfl

/-- Settles O6: an alias row has the header of the operation with its operand values. -/
theorem aliasRowsActAsTheOperation : Obligations.AliasRowsActAsTheOperation := fun s =>
  ⟨exec_congr_header rfl s, exec_congr_header rfl s, exec_congr_header rfl s, exec_congr_header rfl s⟩

/-- A valid request whose three calls are answered completes (R97, R98, R102). -/
theorem request_of_answered {c : DesCore} {f : Header} {s : State} (hg : s.grain = .operation)
    (h05 : s.step = 0#3 ∨ s.step = 5#3) (hv : ValidOperands f.kmPresent f.dinPresent f.kmLen f.dinLen)
    (h : nextAnswers 3 s.core = [.ok, .ok, .ok]) : request c f s = .next (completed c f s) :=
  request_of_valid (m := 2) hg h05 hv (by decide) (fun _ => rfl) h

/-- Settles O17: each alias row is a valid request; its `DOUT` is the operation's result with the sub-keys of its length. -/
theorem fourFormsComplete : Obligations.FourFormsComplete := by
  intro s hg h05 h
  have hdone (i : Instr) (hv : ValidOperands i.header.kmPresent i.header.dinPresent i.header.kmLen i.header.dinLen) :
      exec i s = .next (completed desCore i.header s) := by
    rw [exec_eq_request, request_of_answered hg h05 hv h]
  exact ⟨⟨_, hdone .encrypt2K (by decide), rfl, rfl⟩, ⟨_, hdone .encrypt3K (by decide), rfl, rfl⟩,
    ⟨_, hdone .decrypt2K (by decide), rfl, rfl⟩, ⟨_, hdone .decrypt3K (by decide), rfl, rfl⟩⟩

/-! ## The response (R60) -/

theorem busy_iff_toNat {s : State} : busy s = true ↔ 1 ≤ s.step.toNat ∧ s.step.toNat ≤ 4 := by
  rw [busy_iff]
  bv_omega

theorem done_iff {s : State} : done s = true ↔ s.step = 5#3 :=
  beq_iff_eq

/-- Settles O25: BUSY and DONE by their `STEP`s, and each other part under the flag that gives it a meaning. -/
theorem responseFields : Obligations.ResponseFields := by
  refine ⟨fun s => ⟨busy_iff_toNat, done_iff, rfl, fun h5 => ?_, fun hvalid => if_pos hvalid⟩, rfl, rfl⟩
  have hdone : done s = true := done_iff.mpr h5
  exact ⟨if_pos hdone, if_pos hdone⟩

end Sys2Proof.Proofs
end

section
/-! PROOFS. The key-splitter family (40_key_split.md): the CHECK step, which ends the operation at the first failing check and
splits the key material when none fails. -/

namespace Sys2Proof.Proofs

open Sys2Proof.Machine Sys2Proof.Safety

/-! ## The CHECK step (R20, R75) -/

section Check

variable {s : State}

/-- A step in CHECK at grain `micro`, whether or not the host presents a request (R24, R147). -/
theorem step_of_check (hg : s.grain = .micro) (hr : s.host.reset = false) (h1 : s.step = 1#3) :
    step s = .next (hostMoves (check s)) := by
  have hb : busy s = true := busy_iff.mpr (.inl h1)
  have hgt : (tick desCore s).grain = .micro := (tick_grain desCore s).trans hg
  rw [step_of_block hr (.inr (not_accepting_of_busy hb)) (not_stuck_of_busy hb), goOn_micro hgt, tick_check h1]

theorem check_of_reports {x : BitVec 3} (h : Reports s.kmPresent s.dinPresent s.kmLen s.dinLen x) :
    check s = raiseContractViolation x s :=
  check_of_violation ((violation_eq_some_iff ..).mpr h)

end Check

/-- Settles O12: where R75's chain of checks fails first, the request reports that check's cause, and CHECK raises it. -/
theorem firstFailingCheckRejects : Obligations.FirstFailingCheckRejects := by
  intro s hg hr h1 cause hcause hne
  have hrep : Reports s.kmPresent s.dinPresent s.kmLen s.dinLen cause := by
    split at hcause
    next hkp => exact .inl ⟨hkp, hcause⟩
    next hkp =>
    have hkp : s.kmPresent = true := eq_true_of_ne_false hkp
    split at hcause
    next hkl => exact .inr (.inl ⟨hkp, hkl, hcause⟩)
    next hkl =>
    have hkl : s.kmLen = 128#8 ∨ s.kmLen = 192#8 := Decidable.not_not.mp hkl
    split at hcause
    next hdp => exact .inr (.inr (.inl ⟨hkp, hkl, hdp, hcause⟩))
    next hdp =>
    split at hcause
    next hdl => exact .inr (.inr (.inr ⟨hkp, hkl, eq_true_of_ne_false hdp, hdl, hcause⟩))
    next => exact absurd hcause hne
  rw [step_of_check hg hr h1, check_of_reports hrep]
  rfl

/-! ## KEYSPLIT (R80 to R84, R88) -/

section KeySplit

variable (km : KeyBus) {i : Nat} (hi : i < 64)

include hi

theorem getMsbD_subKey1 : (subKey1 km).getMsbD i = km.getMsbD i :=
  (getMsbD_window km _ hi).trans (by rw [Nat.zero_add])

theorem getMsbD_subKey2 : (subKey2 km).getMsbD i = km.getMsbD (64 + i) :=
  getMsbD_window km _ hi

theorem getMsbD_subKey3 (kl : LenField) :
    (subKey3 kl km).getMsbD i = if kl = 192#8 then km.getMsbD (128 + i) else km.getMsbD i := by
  have hlen : kl.toNat = 192 ↔ kl = 192#8 := BitVec.toNat_inj (y := 192#8)
  by_cases h3 : kl = 192#8
  · rw [subKey3, if_pos (hlen.mpr h3), if_pos h3]
    exact getMsbD_window km _ hi
  · rw [subKey3, if_neg (mt hlen.mp h3), if_neg h3]
    exact getMsbD_subKey1 km hi

end KeySplit

/-- Settles O13: valid operands pass CHECK, and `keySplit` writes the three windows. -/
theorem keySplitMovesTheWindows : Obligations.KeySplitMovesTheWindows := by
  intro s hg hr h1 hv
  refine ⟨subKey1 s.km, subKey2 s.km, subKey3 s.kmLen s.km, fun i hi => ?_, ?_⟩
  · exact ⟨getMsbD_subKey1 s.km hi, getMsbD_subKey2 s.km hi, getMsbD_subKey3 s.km hi s.kmLen⟩
  · rw [step_of_check hg hr h1, check_of_valid hv, ← modeOf_eq]
    rfl

end Sys2Proof.Proofs
end

section
/-! PROOFS. The EDE sequence family (41_ede_sequence.md): the contract of the block cipher, one call, the sub-keys of an operation, and
the laws of whole operations. -/

namespace Sys2Proof.Proofs

open Sys2Proof.Machine Sys2Proof.Safety

/-! ## The block cipher (R94, R95) -/

section Cipher

variable (k x : Block)

@[simp] theorem desD_desE : desD k (desE k x) = x :=
  Equiv.symm_apply_apply ..

@[simp] theorem desE_desD : desE k (desD k x) = x :=
  Equiv.apply_symm_apply ..

theorem getMsbD_clearParity {i : Nat} (hi : i < 64) :
    (clearParity k).getMsbD i = (k.getMsbD i && decide (i % 8 ≠ 7)) := by
  have hmask : ∀ i, i < 64 → (0xFEFEFEFEFEFEFEFE#64).getMsbD i = decide (i % 8 ≠ 7) := by decide
  rw [clearParity, BitVec.getMsbD_and, hmask i hi]

variable {k} {k' : Block}

theorem clearParity_congr (h : AgreeOffParity k k') : clearParity k = clearParity k' := by
  refine BitVec.eq_of_getMsbD_eq fun i hi => ?_
  rw [getMsbD_clearParity k hi, getMsbD_clearParity k' hi]
  by_cases hp : i % 8 = 7
  · simp [hp]
  · rw [h i hi hp]

theorem desE_congr (h : AgreeOffParity k k') : desE k = desE k' := by
  funext x
  rw [desE, clearParity_congr h, desE]

theorem desD_congr (h : AgreeOffParity k k') : desD k = desD k' := by
  funext x
  rw [desD, clearParity_congr h, desD]

end Cipher

/-- Settles O33: `desE` and `desD` are a permutation and its inverse. -/
theorem decryptUndoesEncrypt : Obligations.DecryptUndoesEncrypt := fun k x =>
  ⟨desD_desE k x, desE_desD k x⟩

/-- Settles O34: both functions see the key with its parity positions cleared alone. -/
theorem parityPositionsAreIgnored : Obligations.ParityPositionsAreIgnored := fun _ _ x h =>
  ⟨congrFun (desE_congr h) x, congrFun (desD_congr h) x⟩

/-! ## One call (R99, R100) -/

section Call

variable {s : State}

/-- A step of a busy block at grain `micro`, whether or not the host presents a request (R24, R147). -/
theorem step_of_busy (hg : s.grain = .micro) (hr : s.host.reset = false) (hb : busy s = true) :
    step s = .next (hostMoves (tick desCore s)) := by
  have hgt : (tick desCore s).grain = .micro := (tick_grain desCore s).trans hg
  rw [step_of_block hr (.inr (not_accepting_of_busy hb)) (not_stuck_of_busy hb), goOn_micro hgt]

theorem calling_of_toNat {n : Nat} (h1 : 1 ≤ n) (h3 : n ≤ 3) (hs : s.step.toNat = n + 1) : calling s = true := by
  rw [calling_iff]
  bv_omega

/-- R100's table in its closed form. -/
theorem callRow_closed (op : Op) {n : Nat} (h1 : 1 ≤ n) (h3 : n ≤ 3) :
    (callRow op n).1.bit = (op.bit ^^ decide (n = 2)) ∧
    (callRow op n).2.index = if op = .encrypt then n else 4 - n := by
  obtain rfl | rfl | rfl : n = 1 ∨ n = 2 ∨ n = 3 := by omega
  all_goals cases op <;> decide

/-- The answer of the attached core, by the call's direction (R99). -/
theorem desCore_answer (d : Dir) (k x : Block) :
    desCore.answer ⟨d, k, x⟩ = if d = .encrypt then desE k x else desD k x := by
  cases d <;> rfl

end Call

/-- Settles O14: the call that `STEP` selects is issued; a pending one ends as `DES_CORE` answers it. -/
theorem callIssuesAndTakesItsAnswer : Obligations.CallIssuesAndTakesItsAnswer := by
  intro s hg hr n h1 h3 hs
  have hcall : calling s = true := calling_of_toNat h1 h3 hs
  have hstep : step s = .next (hostMoves (tick desCore s)) := step_of_busy hg hr (by simp [busy, hcall])
  refine ⟨fun hp => ?_, fun d k x hp => ?_⟩
  · have hnum : callNumber s = n := by simp [callNumber, hs]
    obtain ⟨hdir, hkey⟩ := callRow_closed s.op h1 h3
    refine ⟨_, _, hdir, hkey, ?_⟩
    rw [hstep, tick_issue hcall hp, issueCall, nextCall, hnum]
    rfl
  · rw [hstep, tick_poll hcall hp, pollCall, desCore_answer]
    refine ⟨fun hnow hn => ?_, fun hnow hn => ?_, fun hnow => ?_⟩
    · have h4 : s.step ≠ 4#3 := by bv_omega
      have hnext : s.step + 1#3 = BitVec.ofNat 3 (n + 2) := by bv_omega
      simp only [hnow, afterAnswer, takeAnswer_step, coreMoves_step, h4, if_false, advanceStep, hnext]
      rfl
    · have h4 : s.step = 4#3 := by bv_omega
      simp only [hnow, afterAnswer, takeAnswer_step, coreMoves_step, h4, if_true]
      rfl
    · simp only [hnow]
      rfl

/-! ## The sub-keys of an operation (R80 to R83, R89) -/

section SubKeys

/-- Where a sub-key starts in the key material (R80 to R83). -/
def keyStart (kl : LenField) : KeyIx → Nat
  | .k1 => 0
  | .k2 => 64
  | .k3 => if kl = 192#8 then 128 else 0

variable (kl : LenField) (j : KeyIx)

theorem keyStart_cases : keyStart kl j = 0 ∨ keyStart kl j = 64 ∨ (keyStart kl j = 128 ∧ kl = 192#8) := by
  cases j with
  | k1 => exact .inl rfl
  | k2 => exact .inr (.inl rfl)
  | k3 =>
    by_cases h : kl = 192#8
    · exact .inr (.inr ⟨if_pos h, h⟩)
    · exact .inl (if_neg h)

variable {km km' : KeyBus}

theorem getMsbD_keyOf {i : Nat} (hi : i < 64) : (keyOf kl km j).getMsbD i = km.getMsbD (keyStart kl j + i) := by
  cases j with
  | k1 => exact getMsbD_range (start := 0) km (by decide) hi
  | k2 => exact getMsbD_range (start := 64) km (by decide) hi
  | k3 =>
    simp only [keyOf, keyStart]
    split_ifs
    · exact getMsbD_range (start := 128) km (by decide) hi
    · exact getMsbD_range (start := 0) km (by decide) hi

/-- Windows start at multiples of 8, so the parity positions of a sub-key are those of the key material. -/
theorem agreeOffParity_keyOf (h : AgreeOffParity km km') : AgreeOffParity (keyOf kl km j) (keyOf kl km' j) := by
  intro i hi hp
  have hstart := keyStart_cases kl j
  rw [getMsbD_keyOf kl j hi, getMsbD_keyOf kl j hi]
  exact h _ (by omega) (by omega)

/-- The sub-keys of two-key material lie in its first 128 bits (R108). -/
theorem keyOf_twoKey_congr (h : ∀ i, i < 128 → km.getMsbD i = km'.getMsbD i) : keyOf 128#8 km = keyOf 128#8 km' := by
  funext j
  refine BitVec.eq_of_getMsbD_eq fun i hi => ?_
  have hstart : keyStart 128#8 j = 0 ∨ keyStart 128#8 j = 64 := by
    rcases keyStart_cases 128#8 j with h | h | ⟨_, h⟩
    · exact .inl h
    · exact .inr h
    · exact absurd h (by decide)
  rw [getMsbD_keyOf _ j hi, getMsbD_keyOf _ j hi]
  exact h _ (by omega)

/-- Two-key material `A ‖ B` and three-key material `A ‖ B ‖ A` have the same sub-keys (R104). -/
theorem keyOf_aliasing (A B filler : Block) : keyOf 192#8 (A ++ B ++ A) = keyOf 128#8 (A ++ B ++ filler) := by
  have hhigh (C : Block) : (A ++ B ++ C).extractLsb' 128 64 = A := by
    rw [BitVec.extractLsb'_append_eq_of_le (by decide)]
    exact BitVec.extractLsb'_append_eq_left
  have hmid (C : Block) : (A ++ B ++ C).extractLsb' 64 64 = B := by
    rw [BitVec.extractLsb'_append_eq_of_le (by decide)]
    exact BitVec.extractLsb'_append_eq_right
  have hlow : (A ++ B ++ A).extractLsb' 0 64 = A := BitVec.extractLsb'_append_eq_right
  funext j
  cases j with
  | k1 => exact (hhigh A).trans (hhigh filler).symm
  | k2 => exact (hmid A).trans (hmid filler).symm
  | k3 => exact hlow.trans (hhigh filler).symm

end SubKeys

/-! ## The calls and the result of an operation (R97, R98, R103, R105, R109) -/

section Results

variable (key : KeyIx → Block) (x : Block)

/-- `DECRYPT` undoes `ENCRYPT` with the same sub-keys (R103). -/
theorem resultOf_decrypt_encrypt :
    resultOf desCore .decrypt key (resultOf desCore .encrypt key x) = x := by
  simp [resultOf, desCore]

theorem resultOf_encrypt_decrypt :
    resultOf desCore .encrypt key (resultOf desCore .decrypt key x) = x := by
  simp [resultOf, desCore]

/-- `DECRYPT` of an `ENCRYPT` result takes the way back (R109). -/
theorem callsOf_decrypt_encrypt :
    callsOf desCore .decrypt key (resultOf desCore .encrypt key x) =
      ((callsOf desCore .encrypt key x).map flipCall).reverse := by
  simp [callsOf, resultOf, desCore, flipCall]

/-- Single DES with one key, in the operation's own direction. -/
def singleDes : Op → Block → Block → Block
  | .encrypt => desE
  | .decrypt => desD

variable {key} (op : Op)

/-- Calls 1 and 2 of `ENCRYPT` cancel, and calls 2 and 3 of `DECRYPT` (R105). -/
theorem resultOf_of_key1_eq_key2 (h : AgreeOffParity (key .k1) (key .k2)) :
    resultOf desCore op key x = singleDes op (key .k3) x := by
  cases op <;> simp [resultOf, desCore, singleDes, desE_congr h, desD_congr h]

/-- Calls 2 and 3 of `ENCRYPT` cancel, and calls 1 and 2 of `DECRYPT` (R105). -/
theorem resultOf_of_key2_eq_key3 (h : AgreeOffParity (key .k2) (key .k3)) :
    resultOf desCore op key x = singleDes op (key .k1) x := by
  cases op <;> simp [resultOf, desCore, singleDes, desE_congr h, desD_congr h]

/-- The attached core's results do not depend on the parity positions of the sub-keys (R107). -/
theorem resultOf_congr_parity {key' : KeyIx → Block} (h : ∀ j, AgreeOffParity (key j) (key' j)) :
    resultOf desCore op key x = resultOf desCore op key' x := by
  cases op <;> simp [resultOf, desCore, desE_congr (h _), desD_congr (h _)]

variable (c : DesCore) (key)

theorem callsOf_take_three : (callsOf c op key x).take 3 = callsOf c op key x := by
  cases op <;> rfl

/-- Three calls with the directions and keys of R100, each on the result before it (R109). -/
theorem callsOf_shape : ∃ r1 r2 r3 : CallRecord, callsOf c op key x = [r1, r2, r3] ∧
    r1.blk = x ∧ r2.blk = r1.res ∧ r3.blk = r2.res ∧
    if op = .encrypt
      then r1.dir = .encrypt ∧ r1.key = key .k1 ∧ r2.dir = .decrypt ∧ r2.key = key .k2 ∧ r3.dir = .encrypt ∧
        r3.key = key .k3
      else r1.dir = .decrypt ∧ r1.key = key .k3 ∧ r2.dir = .encrypt ∧ r2.key = key .k2 ∧ r3.dir = .decrypt ∧
        r3.key = key .k1 := by
  cases op
  all_goals exact ⟨_, _, _, rfl, rfl, rfl, rfl, rfl, rfl, rfl, rfl, rfl, rfl⟩

end Results

/-! ## Whole operations (R97, R98) -/

section Operations

variable {c : DesCore} {f : Header} {s : State}

/-- A valid request whose call `n + 1` is answered `fail` (R125). -/
theorem request_of_failed {n : Nat} (hg : s.grain = .operation) (h05 : s.step = 0#3 ∨ s.step = 5#3) (hn : n < 3)
    (hv : ValidOperands f.kmPresent f.dinPresent f.kmLen f.dinLen)
    (h : nextAnswers (n + 1) s.core = List.replicate n .ok ++ [.fail]) : request c f s = .next (aborted c f n s) := by
  rw [request_of_valid hg h05 hv hn (by simp) h, aborted, afterPolls_add n 1]
  rfl

theorem completed_trace : (completed c f s).trace = callsOf c f.op (keyOf f.kmLen s.host.km) s.host.din :=
  callsOf_take_three ..

end Operations

/-- Settles O18: the completed state is written for any pair of functions. -/
theorem callOrderForAnyCore : Obligations.CallOrderForAnyCore := fun _ _ _ hg h05 hv h =>
  request_of_answered hg h05 hv h

/-- Settles O15: `ENCRYPT` is the request with its operands; completion, rejection and abort by their laws. -/
theorem encryptOperation : Obligations.EncryptOperation := fun _ _ _ _ _ hg h05 =>
  ⟨fun hv h => ⟨request_of_answered hg h05 hv h, rfl⟩, fun _ hx => request_of_reports hg h05 hx,
    fun _ hn hv h => request_of_failed hg h05 hn hv h⟩

/-- Settles O16: `DECRYPT` likewise. -/
theorem decryptOperation : Obligations.DecryptOperation := fun _ _ _ _ _ hg h05 =>
  ⟨fun hv h => ⟨request_of_answered hg h05 hv h, rfl⟩, fun _ hx => request_of_reports hg h05 hx,
    fun _ hn hv h => request_of_failed hg h05 hn hv h⟩

/-- Settles O44: what the ports show of the three end states. -/
theorem operationsAsSeenAtThePorts : Obligations.OperationsAsSeenAtThePorts := by
  intro i s hg h05 f key x
  rw [exec_eq_request]
  refine ⟨fun hv h => ?_, fun cause hx => ?_, fun n hn hv h => ?_⟩
  · refine ⟨_, request_of_answered hg h05 hv h, rfl, rfl, rfl, rfl, rfl, completed_trace, fun hop => ?_, fun hop => ?_⟩
    · exact congrArg (resultOf desCore · key x) hop
    · exact congrArg (resultOf desCore · key x) hop
  · exact ⟨_, request_of_reports hg h05 hx, rfl, rfl, rfl, rfl, rfl, rfl⟩
  · exact ⟨_, request_of_failed hg h05 hn hv h, rfl, rfl, rfl, rfl, rfl, rfl⟩

/-! ## The result fed back (R103, R109) -/

section FedBack

/-- The header with the operands of a valid request (R76 to R79). -/
abbrev fullHeader (op : Op) (kl : LenField) : Header :=
  ⟨op, true, true, kl, 64#8⟩

/-- The host presents the result of a completed operation as the next data block. -/
abbrev fedBack (c : DesCore) (f : Header) (s : State) : State :=
  withDin (completed c f s) (completed c f s).dout

variable {c : DesCore} {s : State} {kl : LenField}

theorem request_fullHeader (op : Op) (hg : s.grain = .operation) (h05 : s.step = 0#3 ∨ s.step = 5#3)
    (hkl : kl = 128#8 ∨ kl = 192#8) (h : nextAnswers 3 s.core = [.ok, .ok, .ok]) :
    request c (fullHeader op kl) s = .next (completed c (fullHeader op kl) s) :=
  request_of_answered hg h05 ⟨rfl, hkl, rfl, rfl⟩ h

/-- Two valid requests one after the other, all six calls answered. -/
theorem request_fedBack (op op' : Op) (hg : s.grain = .operation) (h05 : s.step = 0#3 ∨ s.step = 5#3)
    (hkl : kl = 128#8 ∨ kl = 192#8) (h : nextAnswers 6 s.core = List.replicate 6 .ok) :
    request c (fullHeader op kl) s = .next (completed c (fullHeader op kl) s) ∧
    request c (fullHeader op' kl) (fedBack c (fullHeader op kl) s) =
      .next (completed c (fullHeader op' kl) (fedBack c (fullHeader op kl) s)) := by
  obtain ⟨hfirst, hsecond⟩ := (nextAnswers_add_eq_append (m := 3) (n := 3) (xs := [.ok, .ok, .ok])
    (ys := [.ok, .ok, .ok]) rfl).mp h
  exact ⟨request_fullHeader op hg h05 hkl hfirst, request_fullHeader op' hg (.inr rfl) hkl hsecond⟩

end FedBack

/-- Settles O35: the second operation undoes the first with the same sub-keys. -/
theorem roundTrip : Obligations.RoundTrip := by
  intro s kl hg h05 hkl h
  constructor
  · obtain ⟨hfirst, hsecond⟩ := request_fedBack (c := desCore) .encrypt .decrypt hg h05 hkl h
    exact ⟨_, _, hfirst, hsecond, rfl, rfl, resultOf_decrypt_encrypt ..⟩
  · obtain ⟨hfirst, hsecond⟩ := request_fedBack (c := desCore) .decrypt .encrypt hg h05 hkl h
    exact ⟨_, _, hfirst, hsecond, rfl, rfl, resultOf_encrypt_decrypt ..⟩

/-- Settles O41: a completed trace has the operation's three calls, a rejected one none, and `DECRYPT` takes the way back. -/
theorem traceShape : Obligations.TraceShape := by
  refine ⟨fun i s hg h05 h hv => ?_, fun i s x hg h05 hx => ?_, fun s kl hg h05 hkl h => ?_⟩
  · obtain ⟨r1, r2, r3, hcalls, hshape⟩ :=
      callsOf_shape (keyOf i.header.kmLen s.host.km) s.host.din i.header.op desCore
    rw [exec_eq_request]
    exact ⟨_, r1, r2, r3, request_of_answered hg h05 hv h, completed_trace.trans hcalls, hshape⟩
  · rw [exec_eq_request]
    exact ⟨_, request_of_reports hg h05 hx, rfl⟩
  · obtain ⟨hfirst, hsecond⟩ := request_fedBack (c := desCore) .encrypt .decrypt hg h05 hkl h
    refine ⟨_, _, hfirst, hsecond, ?_⟩
    rw [completed_trace, completed_trace]
    exact callsOf_decrypt_encrypt ..

/-- Settles O37: both operations complete, and the neighbouring calls with equal keys cancel. -/
theorem equalSubKeysCollapse : Obligations.EqualSubKeysCollapse := by
  intro s kl hg h05 hkl h key
  refine ⟨_, _, request_fullHeader .encrypt hg h05 hkl h, request_fullHeader .decrypt hg h05 hkl h, rfl, rfl,
    fun h12 => ?_, fun h23 => ?_⟩
  · exact ⟨resultOf_of_key1_eq_key2 _ .encrypt h12, resultOf_of_key1_eq_key2 _ .decrypt h12⟩
  · exact ⟨resultOf_of_key2_eq_key3 _ .encrypt h23, resultOf_of_key2_eq_key3 _ .decrypt h23⟩

/-! ## What an operation does not depend on (R104, R107, R108) -/

section Independence

/-- Everything a request does, by its header and `DES_CORE`'s script: from every state that can accept it is rejected with the same
cause, or it stops at the same call by the same answer. -/
theorem request_ends (c : DesCore) (f : Header) (k : CoreScript) :
    (∃ x, ∀ s : State, s.grain = .operation → s.step = 0#3 ∨ s.step = 5#3 → request c f s = .next (rejected x f s)) ∨
    (∃ m a, ∀ s : State, s.grain = .operation → s.step = 0#3 ∨ s.step = 5#3 → s.core = k →
      request c f s = .next (endedBy c f m (afterPolls m k) s a)) := by
  cases hv : violation f.kmPresent f.kmLen f.dinPresent f.dinLen with
  | some x =>
    have hx := (violation_eq_some_iff ..).mp hv
    exact .inl ⟨x, fun s hg h05 => request_of_reports hg h05 hx⟩
  | none =>
    have hv := (violation_eq_none_iff ..).mp hv
    obtain ⟨m, a, hm, hok, h⟩ := exists_last_answer k
    refine .inr ⟨m, a, fun s hg h05 hcore => ?_⟩
    subst hcore
    exact request_of_valid hg h05 hv hm hok h

variable {c : DesCore} {f : Header} {n : Nat} {k : CoreScript} {s : State} {a : CoreAnswer}

/-- Key material of another length or on another bus, but with the same sub-keys, changes nothing else in the end state. -/
theorem endedBy_withKm (kl : LenField) (km : KeyBus) (hkey : keyOf kl km = keyOf f.kmLen s.host.km) :
    endedBy c { f with kmLen := kl } n k (withKm s km) a =
      { endedBy c f n k s a with
        km := km, kmLen := kl, mode := if kl = 192#8 then .threeKey else .twoKey, host := (withKm s km).host } := by
  have hkey' : keyOf kl (withKm s km).host.km = keyOf f.kmLen s.host.km := hkey
  cases a with
  | ok => simp only [endedBy, completed, working, hkey']; rfl
  | fail => simp only [endedBy, aborted, working, hkey']; rfl
  | silent => simp only [endedBy, pending, inCall, callAt, working, hkey']; rfl

/-- With the attached core, key material that differs at parity positions alone gives the same `DOUT`. -/
theorem endedBy_dout_congr_parity {km : KeyBus} (h : AgreeOffParity s.host.km km) :
    (endedBy desCore f n k s a).dout = (endedBy desCore f n k (withKm s km) a).dout := by
  cases a with
  | ok => exact resultOf_congr_parity s.host.din f.op fun j => agreeOffParity_keyOf f.kmLen j h
  | fail => rfl
  | silent => rfl

/-- A valid two-key request and the three-key request with the first sub-key again as the third (R104). -/
theorem request_aliasing (op : Op) (A B filler : Block) (hg : s.grain = .operation) (h05 : s.step = 0#3 ∨ s.step = 5#3) :
    ∃ t, request c (fullHeader op 128#8) (withKm s (A ++ B ++ filler)) = .next t ∧
      request c (fullHeader op 192#8) (withKm s (A ++ B ++ A)) =
        .next { t with km := A ++ B ++ A, kmLen := 192#8, mode := .threeKey, host := (withKm s (A ++ B ++ A)).host } := by
  obtain ⟨m, a, hm, hok, h⟩ := exists_last_answer s.core
  have hrequest (kl : LenField) (hkl : kl = 128#8 ∨ kl = 192#8) (km : KeyBus) :
      request c (fullHeader op kl) (withKm s km) = .next (endedBy c (fullHeader op kl) m (afterPolls m s.core) (withKm s km) a) :=
    request_of_valid (s := withKm s km) hg h05 ⟨rfl, hkl, rfl, rfl⟩ hm hok h
  refine ⟨_, hrequest 128#8 (.inl rfl) _, (hrequest 192#8 (.inr rfl) _).trans (congrArg _ ?_)⟩
  exact endedBy_withKm (f := fullHeader op 128#8) (s := withKm s (A ++ B ++ filler)) 192#8 (A ++ B ++ A)
    (keyOf_aliasing A B filler)

end Independence

/-- Settles O36: both operations, as the request's `OP` has it. -/
theorem twoKeyAliasing : Obligations.TwoKeyAliasing := fun _ A B filler hg h05 =>
  ⟨request_aliasing .encrypt A B filler hg h05, request_aliasing .decrypt A B filler hg h05⟩

/-- Settles O39: parity positions of the material do not move the stop of the operation, nor its result. -/
theorem parityOfKeyMaterialDoesNotMatter : Obligations.ParityOfKeyMaterialDoesNotMatter := by
  intro i s km hg h05 hkm
  simp only [exec_eq_request]
  rcases request_ends desCore i.header s.core with ⟨x, hend⟩ | ⟨m, a, hend⟩
  · exact ⟨_, _, hend s hg h05, hend (withKm s km) hg h05, rfl, rfl, rfl, rfl, rfl⟩
  · refine ⟨_, _, hend s hg h05 rfl, hend (withKm s km) hg h05 rfl, ?_, ?_, endedBy_dout_congr_parity hkm, ?_, ?_⟩
    all_goals cases a <;> rfl

/-- Settles O40: the filler is in no sub-key of two-key material, and a rejection reads no bus. -/
theorem unreadBitsDoNotMatter : Obligations.UnreadBitsDoNotMatter := by
  intro i s hg h05
  simp only [exec_eq_request]
  refine ⟨fun km hkl hkm => ?_, fun km din x hx => ?_⟩
  · rcases request_ends desCore i.header s.core with ⟨x, hend⟩ | ⟨m, a, hend⟩
    · exact ⟨_, hend s hg h05, hend (withKm s km) hg h05⟩
    · have hkey : keyOf i.header.kmLen km = keyOf i.header.kmLen s.host.km := by
        rw [hkl, keyOf_twoKey_congr hkm]
      have hsame := endedBy_withKm (c := desCore) (n := m) (k := afterPolls m s.core) (a := a) _ km hkey
      refine ⟨_, hend s hg h05 rfl, (hend (withKm s km) hg h05 rfl).trans (congrArg _ (hsame.trans ?_))⟩
      cases a <;> rfl
  · exact ⟨_, request_of_reports hg h05 hx, request_of_reports (s := withDin (withKm s km) din) hg h05 hx⟩

end Sys2Proof.Proofs
end

section
/-! PROOFS. The reset and hazards family (70_reset_and_hazards.md): runs under a promise of the host, a block at rest, and a busy
block that no request reaches. -/

namespace Sys2Proof.Proofs

open Sys2Proof.Machine Sys2Proof.Safety

/-! ## Runs under a promise of the host -/

section Promise

variable {s t : State} {Q : HostWires → Prop}

/-- The host drives wires with `Q` in this step and in every step of its list. -/
def Drives (Q : HostWires → Prop) (s : State) : Prop :=
  Q s.host ∧ ∀ w ∈ s.hostNext, Q w

/-- Running on touches neither the host's wires nor its list. -/
theorem goOn_host (c : DesCore) (s : State) : (goOn c s).host = s.host ∧ (goOn c s).hostNext = s.hostNext :=
  goOn_keeps (P := fun t => t.host = s.host ∧ t.hostNext = s.hostNext) (by simp) ⟨rfl, rfl⟩

/-- Each of the block's moves leaves the host's wires, which move on once in a step. -/
theorem step_host (h : step s = .next t) : t.host = nextWires s ∧ t.hostNext = s.hostNext.tail := by
  have moved {u : State} (hu : u.host = s.host ∧ u.hostNext = s.hostNext) :
      (hostMoves u).host = nextWires s ∧ (hostMoves u).hostNext = s.hostNext.tail := by
    simp [nextWires, hu]
  rcases step_cases s with ⟨-, e⟩ | ⟨-, -, -, e⟩ | ⟨-, -, -, e⟩ | ⟨-, -, e⟩ <;> rw [e] at h <;> cases h
  · exact moved ⟨rfl, rfl⟩
  · exact moved (goOn_host ..)
  · exact moved (by simp [goOn_host])

/-- A promise that quiet wires meet goes on from the host's list, whatever the wires are now (log 4). -/
theorem drives_of_step (hquiet : ∀ w, Q (quietWires w)) (hlist : ∀ w ∈ s.hostNext, Q w) (h : step s = .next t) :
    Drives Q t := by
  obtain ⟨hhost, hnext⟩ := step_host h
  rw [Drives, hhost, hnext]
  refine ⟨?_, fun w hw => hlist w (List.mem_of_mem_tail hw)⟩
  cases hl : s.hostNext with
  | nil => simpa only [nextWires, hl, quietWires] using hquiet s.host
  | cons w ws => simpa only [nextWires, hl] using hlist w (by simp [hl])

/-- What a step keeps under the host's promise, a run keeps, and it does not stop. -/
theorem run_keeps {P : State → Prop} (hquiet : ∀ w, Q (quietWires w))
    (hstep : ∀ s, P s → Q s.host → ∃ t, step s = .next t ∧ P t) (n : Nat) :
    ∀ s, P s → Drives Q s → ∃ t, Host.Core.run core n s = .next t ∧ P t := by
  induction n with
  | zero => exact fun s hP _ => ⟨s, rfl, hP⟩
  | succ n ih =>
    intro s hP ⟨hnow, hlist⟩
    obtain ⟨t, e, hPt⟩ := hstep s hP hnow
    rw [run_succ n e]
    exact ih t hPt (drives_of_step hquiet hlist e)

/-- A block in which no step changes anything under the host's promise stays as it is: only the host's wires move. -/
theorem run_at_rest (hquiet : ∀ w, Q (quietWires w))
    (hrest : ∀ w ws, Q w → step (rehost w ws s) = .next (hostMoves (rehost w ws s))) (n : Nat) (h : Drives Q s) :
    ∃ w ws, Host.Core.run core n s = .next (rehost w ws s) := by
  have hstep : ∀ t, (∃ w ws, t = rehost w ws s) → Q t.host → ∃ t', step t = .next t' ∧ ∃ w ws, t' = rehost w ws s := by
    rintro _ ⟨w, ws, rfl⟩ hw
    exact ⟨_, hrest w ws hw, _, _, rfl⟩
  obtain ⟨_, e, w, ws, rfl⟩ := run_keeps hquiet hstep n s ⟨s.host, s.hostNext, rfl⟩ h
  exact ⟨w, ws, e⟩

end Promise

/-! ## A block at rest -/

section Rest

variable {s : State}

theorem not_busy_of_accepting (h : accepting s = true) : busy s = false := by
  rcases accepting_iff.mp h with e | e <;> simp [busy, calling, e]

theorem not_stuck_of_accepting (h : accepting s = true) : stuck s = false := by
  rcases accepting_iff.mp h with e | e <;> simp [stuck, e]

theorem goOn_stop {c : DesCore} (h : busy s = false ∨ waitingForCore s = true) : goOn c s = s := by
  cases hg : s.grain with
  | micro => exact goOn_micro hg
  | operation => rw [goOn_operation hg, settle_stop h]

/-- In `IDLE` and `DONE` a step with neither reset nor a request changes nothing in the block (R24). -/
theorem step_of_accepting_quiet (ha : accepting s = true) (hq : Quiet s.host) : step s = .next (hostMoves s) := by
  have hb := not_busy_of_accepting ha
  rw [step_of_block hq.1 (.inl hq.2) (not_stuck_of_accepting ha), tick_of_not_busy hb, goOn_stop (.inl hb)]

/-- A call is pending and `DES_CORE` is silent for ever (R152). -/
structure Hangs (s : State) : Prop where
  calling : calling s = true
  pend : s.pend ≠ none
  core : s.core = ⟨[], .silent⟩

theorem busy_of_calling (h : calling s = true) : busy s = true := by
  simp [busy, h]

theorem waitingForCore_of_hangs (h : Hangs s) : waitingForCore s = true := by
  simp [waitingForCore, h.calling, Option.isSome_iff_ne_none, h.pend, h.core, CoreScript.now]

/-- A poll in vain leaves even the script of a core that is silent for ever. -/
theorem tick_of_hangs {c : DesCore} (h : Hangs s) : tick c s = s := by
  obtain ⟨call, hp⟩ := Option.ne_none_iff_exists'.mp h.pend
  have hnow : s.core.now = .silent := by rw [h.core]; rfl
  have hpoll : pollCall c call s = coreMoves s := by simp only [pollCall, hnow]
  have hcore : s.core.advance = s.core := by rw [h.core]; rfl
  rw [tick_poll h.calling hp, hpoll, coreMoves, hcore]

/-- A step of a hanging block without reset changes nothing in it, at either grain and with any request (R147, R152). -/
theorem step_of_hangs (h : Hangs s) (hr : s.host.reset = false) : step s = .next (hostMoves s) := by
  have hb := busy_of_calling h.calling
  rw [step_of_block hr (.inr (not_accepting_of_busy hb)) (not_stuck_of_busy hb), tick_of_hangs h,
    goOn_stop (.inr (waitingForCore_of_hangs h))]

end Rest

/-! ## Reset (R141, R143) -/

/-- The block is in `IDLE` and has no call: what a reset leaves (R141). -/
structure Cleared (s : State) : Prop where
  step : s.step = 0#3
  pend : s.pend = none
  trace : s.trace = []

theorem cleared_resetEntry (s : State) : Cleared (resetEntry s) :=
  ⟨rfl, rfl, rfl⟩

theorem cleared_hostMoves {s : State} (h : Cleared s) : Cleared (hostMoves s) :=
  ⟨h.step, h.pend, h.trace⟩

/-- Without a request a step is a reset or leaves the idle block as it is. -/
theorem cleared_step {s : State} (h : Cleared s) (hq : s.host.req = false) : ∃ t, step s = .next t ∧ Cleared t := by
  cases hr : s.host.reset with
  | true => exact ⟨_, step_of_reset hr, cleared_hostMoves (cleared_resetEntry s)⟩
  | false => exact ⟨_, step_of_accepting_quiet (accepting_iff.mpr (.inl h.step)) ⟨hr, hq⟩, cleared_hostMoves h⟩

/-- Settles O22: a reset clears the block, and each step without a request keeps it cleared. -/
theorem resetAbandonsTheOperation : Obligations.ResetAbandonsTheOperation := by
  intro s n hr hlist
  have hfirst := step_of_reset hr
  obtain ⟨t, e, ht⟩ := run_keeps (Q := fun w => w.req = false) (fun _ => rfl) (fun _ => cleared_step) n _
    (cleared_hostMoves (cleared_resetEntry s)) (drives_of_step (fun _ => rfl) hlist hfirst)
  have hbusy : busy t = false := not_busy_of_accepting (accepting_iff.mpr (.inl ht.step))
  exact ⟨t, (run_succ n hfirst).trans e, ht.step, by simp [response, done, ht.step], hbusy, ht.pend, ht.trace⟩

/-! ## Requests to a busy block (R147) -/

/-- A step of a busy block without reset reads nothing from the host's wires, at either grain. -/
theorem step_rehost_of_busy {s : State} (hb : busy s = true) {w : HostWires} (hw : w.reset = false)
    (ws : List HostWires) :
    step (rehost w ws s) = .next (hostMoves (rehost w ws (goOn desCore (tick desCore s)))) := by
  have hb' : busy (rehost w ws s) = true := hb
  rw [step_of_block hw (.inr (not_accepting_of_busy hb')) (not_stuck_of_busy hb'), tick_rehost, goOn_rehost]

/-- Settles O23: `accept` writes `STEP` and `DOUT_VALID`; a busy block makes its own step, which no wire reaches. -/
theorem busyBlockIgnoresRequests : Obligations.BusyBlockIgnoresRequests := by
  refine ⟨fun s hg hr hq h05 => ?_, fun s w w' hstep hw hw' => ⟨fun i j => ?_, ?_⟩⟩
  · refine ⟨_, step_of_accept hr hq (accepting_iff.mpr h05), ?_⟩
    rw [goOn_micro (s := accept _ s) hg]
    exact ⟨rfl, rfl⟩
  · have ha := not_accepting_of_busy (busy_iff.mpr hstep)
    simp only [exec_eq_request, request_of_not_accepting ha]
  · have hb := busy_iff.mpr hstep
    exact ⟨_, step_rehost_of_busy hb hw s.hostNext, step_rehost_of_busy hb hw' s.hostNext⟩

/-! ## The response (R149) -/

/-- Settles O24: in DONE nothing moves but the host's wires; of a busy block R23's equivalence says that `DOUT_VALID` is 0. -/
theorem responseIsStable : Obligations.ResponseIsStable := by
  refine ⟨fun s n h5 hq hlist => ?_, fun s hinv hb => ?_⟩
  · have hrest (w : HostWires) (ws : List HostWires) (hw : Quiet w) :
        step (rehost w ws s) = .next (hostMoves (rehost w ws s)) :=
      step_of_accepting_quiet (accepting_iff.mpr (.inr h5)) hw
    obtain ⟨w, ws, e⟩ := run_at_rest (Q := Quiet) (fun _ => ⟨rfl, rfl⟩) hrest n ⟨hq, hlist⟩
    exact ⟨_, e, h5, rfl, rfl, rfl, rfl⟩
  · rcases busy_iff.mp hb with e | e | e | e <;> simpa [e] using hinv.valid

/-! ## A core that never answers (R152) -/

/-- Settles O26: a block that hangs makes the same poll in vain for ever. -/
theorem silentCoreHangsTheBlock : Obligations.SilentCoreHangsTheBlock := by
  intro s n hstep hpend hcore hr hlist
  have hs : Hangs s := ⟨calling_iff.mpr hstep, hpend, hcore⟩
  have hrest (w : HostWires) (ws : List HostWires) (hw : w.reset = false) :
      step (rehost w ws s) = .next (hostMoves (rehost w ws s)) :=
    step_of_hangs ⟨hs.calling, hs.pend, hs.core⟩ hw
  obtain ⟨w, ws, e⟩ := run_at_rest (Q := fun w => w.reset = false) (fun _ => rfl) hrest n ⟨hr, hlist⟩
  exact ⟨_, e, rfl, busy_of_calling hs.calling, hpend⟩

end Sys2Proof.Proofs
end
